-- ==== Sys2Proof/Word.lean ====
section
/-! DEFINITION. The words of the block: bytes, byte sequences and single bits (spec/00_scope.md R6, R7). -/

namespace Sys2Proof

/-- A byte: 8 bits, unsigned, bit 7 the most significant (R6). -/
abbrev Byte := BitVec 8

/-- A byte sequence `B`, byte 0 first (R7, R40). -/
abbrev Bytes := List Byte

/-- A single bit: a sequence number or a chaining flag. `s XOR 1` is `!s` (R7). -/
abbrev Bit := Bool

end Sys2Proof
end

