-- ==== Sys2Proof/Types.lean ====
section
/-! DEFINITION. The records and enumerations the spec names: endpoints, frame kinds, error classes,
S-frame subtypes, transmit contexts, decoded frames and the answers of the Channel Adapter. -/

namespace Sys2Proof

/-- The two logical endpoints (R25). -/
inductive Endpoint where
  | ese
  | euicc
  deriving DecidableEq, Repr, Inhabited

/-- The chip-variant flag's values (R17). -/
inductive Variant where
  | legacy
  | extended
  deriving DecidableEq, Repr, Inhabited

/-- The init mode of `open` (R201). -/
inductive InitMode where
  | intfReset
  | resync
  deriving DecidableEq, Repr, Inhabited

/-- ACK or NACK, the kind of an R-frame (R11, R102). -/
inductive AckKind where
  | ack
  | nack
  deriving DecidableEq, Repr, Inhabited

/-- The error class of an R-frame (R11, R68). -/
inductive ErrClass where
  | none
  | parity
  | other
  | missing
  | undefined
  deriving DecidableEq, Repr, Inhabited

/-- The eight types of S-frame (R71). -/
inductive SType where
  | resync
  | ifs
  | abort
  | wtx
  | endOfSession
  | hardReset
  | atr
  | intfReset
  deriving DecidableEq, Repr, Inhabited

/-- The sixteen S-frame subtypes of R71. -/
inductive SName where
  | resynchReq | resynchRsp
  | ifsReq | ifsRsp
  | abortReq | abortRsp
  | wtxReq | wtxRsp
  | endOfSessionReq | endOfSessionRsp
  | hardResetReq | hardResetRsp
  | atrReq | atrRsp
  | intfResetReq | intfResetRsp
  deriving DecidableEq, Repr, Inhabited

/-- What an S-frame's subtype field can hold: a name of R71, `Unknown(c)` with the 6-bit code `c` (R76),
or `Invalid` (the reset value, R11). -/
inductive SSub where
  | named (n : SName)
  | unknown (c : BitVec 6)
  | invalid
  deriving DecidableEq, Repr, Inhabited

/-- The OS mode field of the ATR (R22). -/
inductive OsMode where
  | jcop
  | osu
  deriving DecidableEq, Repr, Inhabited

/-- The ATR registers (R22). The widths are not in the source: the fields the spec compares are naturals. -/
structure AtrFields where
  vendorId : Bytes
  bwt : Nat
  bgt : Nat
  checksumMode : Nat
  osMode : OsMode
  osVersion : Nat
  maxIfsc : Nat
  raw : Bytes
  deriving DecidableEq, Repr, Inhabited

/-- A reference to an application command buffer of the host: where it starts and its length `|buf|` (R41). -/
structure BufRef where
  base : Nat
  len : Nat
  deriving DecidableEq, Repr, Inhabited

/-- The kind of frame a transmit context describes (R11). -/
inductive TxKind where
  | none
  | i
  | r
  | s
  | lock
  deriving DecidableEq, Repr, Inhabited

/-- The type of the last frame that decoded (R14). -/
inductive RxKind where
  | none
  | i
  | r
  | s
  deriving DecidableEq, Repr, Inhabited

/-- The I sub-record of a transmit context (R11). The four lengths are `LEN_W`-bit registers held as naturals (R152). -/
structure IRec where
  buf : Option BufRef
  offset : Nat
  remaining : Nat
  fragLen : Nat
  maxLen : Nat
  seq : Bit
  chained : Bit
  deriving DecidableEq, Repr, Inhabited

/-- The R sub-record of a transmit context (R11). -/
structure RRec where
  kind : AckKind
  err : ErrClass
  seq : Bit
  deriving DecidableEq, Repr, Inhabited

/-- The S sub-record of a transmit context (R11). -/
structure SRec where
  subtype : SSub
  payload : Bytes
  deriving DecidableEq, Repr, Inhabited

/-- A transmit context, the type of `NTX` and `LTX` (R11). All three sub-records exist at once. -/
structure TxCtx where
  ftype : TxKind
  i : IRec
  r : RRec
  s : SRec
  deriving DecidableEq, Repr, Inhabited

/-- The receive context `RXC` (R14). -/
structure RxCtx where
  ftype : RxKind
  iSeq : Bit
  iChained : Bit
  rSeq : Bit
  rErr : ErrClass
  sSubtype : SSub
  deriving DecidableEq, Repr, Inhabited

/-- The warning of a decoded S-frame (R120). -/
inductive Warning where
  | none
  | unknownSubtype
  deriving DecidableEq, Repr, Inhabited

/-- A decoded frame, the result of `decode` (R120). -/
inductive Frame where
  | i (seq chained : Bit) (payload : Bytes)
  | r (seq : Bit) (kind : AckKind) (err : ErrClass)
  | s (subtype : SSub) (payload : Bytes) (atr : Option AtrFields) (warning : Warning)
  deriving DecidableEq, Repr, Inhabited

/-- The two errors `decode` returns (R120). -/
inductive DecodeError where
  | checksumMismatch
  | malformed
  deriving DecidableEq, Repr, Inhabited

/-- The three uses of the guard (R237): the R-NACK of R238, the retransmission of R240 and the replay of R239. -/
inductive GuardedAction where
  | nackOther
  | retransmit
  | replayS
  deriving DecidableEq, Repr, Inhabited

/-- The terminal outcome register `STATUS` (R15). -/
inductive Status where
  | ok
  | recoveryExhausted
  | transceiveFailed
  | ioFailure
  deriving DecidableEq, Repr, Inhabited

/-- The two values `RECOVERY_RESET_STATUS` may have (R5). -/
inductive ResetVerdict where
  | recoveryExhausted
  | ok
  deriving DecidableEq, Repr, Inhabited

/-- What `ChSend` answers (R45). -/
inductive SendAnswer where
  | ok
  | ioError
  deriving DecidableEq, Repr, Inhabited

/-- What `ChRecv` answers (R46): any byte sequence, a timeout or an I/O error. -/
inductive RecvAnswer where
  | bytes (F : Bytes)
  | timeout
  | ioError
  deriving DecidableEq, Repr, Inhabited

end Sys2Proof
end

