-- ==== Sys2Proof/Config.lean ====
section
/-! DEFINITION. The implementation parameters of R5 (spec/00_scope.md), and the free values: what the spec
leaves open, as constants with no body. A machine's parameters stand in `State.cfg`, which nothing writes,
so that a statement about every state is a statement about every configuration (log entry 1). -/

namespace Sys2Proof
namespace Config

/-- `LEN_EXT_MARKER` (R5, settled). -/
def lenExtMarker : Byte := 0xFF#8

/-- `SHORT_LEN_MAX` (R5, settled). -/
def shortLenMax : Nat := 254

/-- `EXT_LEN_MAX` (R5). -/
def extLenMax : Nat := 65535

/-- `OS_VERSION_CLOSE_ALL_MIN` (R5, settled). -/
def osVersionCloseAllMin : Nat := 10

/-- `SEQ_INIT` (R5, settled): 1. -/
def seqInit : Bit := true

/-- `2^LEN_W` with `LEN_W = 32` (R5, R152). -/
def lenLimit : Nat := 4294967296

/-- `parse_atr` (R5, R128): OPEN, a total function of the payload bytes alone. Log entry 2. -/
opaque parseAtr : Bytes → AtrFields

/-- What the Channel Adapter answers to the `n`-th call that no script in `State` answers, for `ChSend` (R48, U10). Log entry 3. -/
opaque freeSend : Nat → SendAnswer

/-- The same for `ChRecv` (R48, U10). Log entry 3. -/
opaque freeRecv : Nat → RecvAnswer

/-- Unspecified contents of a frame buffer (R43, R104, U9). Log entry 4. -/
opaque freeBytes : Nat → Bytes

/-- `lrc` outside its domain, `end > |buf|` (R90). Log entry 5. -/
opaque freeLrc : Bytes → Nat → Nat → Byte

/-- `check_lrc` outside its domain, `|F| < 2` (R93). Log entry 5. -/
opaque freeCheck : Bytes → Bool

/-- `ADDR_TX[eUICC]` (R5): OPEN, no default. -/
opaque addrTxEuicc : Byte

/-- `ADDR_RX[eUICC]` (R5): OPEN, no default. -/
opaque addrRxEuicc : Byte

/-- `CLOSE_ALL_MARKER` (R5): OPEN, no default. -/
opaque closeAllMarker : Byte

/-- `WTX_COUNTER_LIMIT − 1` (R5): OPEN, no default, and the limit is at least 1. -/
opaque wtxCounterLimitPred : Nat

/-- `RECOVERY_DELAY` (R5): OPEN, no default. -/
opaque recoveryDelay : Nat

/-- `WTX_DELAY` (R5): OPEN, no default. -/
opaque wtxDelay : Nat

/-- `S_SETTLE_DELAY` (R5): OPEN, no default; no rule calls this sleep (R47). -/
opaque sSettleDelay : Nat

/-- `RECV_TIMEOUT` (R5): OPEN, no default. -/
opaque recvTimeout : Nat

end Config

/-- The sixteen subtypes, in the order of R71. -/
def SName.all : List SName :=
  [.resynchReq, .resynchRsp, .ifsReq, .ifsRsp, .abortReq, .abortRsp, .wtxReq, .wtxRsp,
   .endOfSessionReq, .endOfSessionRsp, .hardResetReq, .hardResetRsp, .atrReq, .atrRsp,
   .intfResetReq, .intfResetRsp]

/-- The type of a subtype (R71). -/
def SName.stype : SName → SType
  | .resynchReq | .resynchRsp => .resync
  | .ifsReq | .ifsRsp => .ifs
  | .abortReq | .abortRsp => .abort
  | .wtxReq | .wtxRsp => .wtx
  | .endOfSessionReq | .endOfSessionRsp => .endOfSession
  | .hardResetReq | .hardResetRsp => .hardReset
  | .atrReq | .atrRsp => .atr
  | .intfResetReq | .intfResetRsp => .intfReset

/-- The direction of a subtype: true for a response (R69, R71). -/
def SName.isRsp : SName → Bool
  | .resynchReq | .ifsReq | .abortReq | .wtxReq
  | .endOfSessionReq | .hardResetReq | .atrReq | .intfResetReq => false
  | .resynchRsp | .ifsRsp | .abortRsp | .wtxRsp
  | .endOfSessionRsp | .hardResetRsp | .atrRsp | .intfResetRsp => true

/-- The implementation parameters of R5. -/
structure Cfg where
  addrTxEse : Byte
  addrTxEuicc : Byte
  addrRxEse : Byte
  addrRxEuicc : Byte
  rxAddrCheck : Bool
  lrcEncFrom : Fin 2
  lrcDecFrom : Fin 2
  iSeqBit : Fin 8
  iChainBit : Fin 8
  rSeqBit : Fin 8
  rErrNone : BitVec 2
  rErrParity : BitVec 2
  rErrOther : BitVec 2
  rErrMissing : BitVec 2
  sCodeResync : BitVec 5
  sCodeIfs : BitVec 5
  sCodeAbort : BitVec 5
  sCodeWtx : BitVec 5
  sCodeEndOfSession : BitVec 5
  sCodeHardReset : BitVec 5
  sCodeAtr : BitVec 5
  sCodeIntfReset : BitVec 5
  sRspBit : Fin 8
  ifsDefault : Nat
  ifsMaxInit : Nat
  rnackRetryLimit : Nat
  wtxCounterLimit : Nat
  frameRetryCount : Nat
  wtxRspPayload : Byte
  closeAllMarker : Byte
  recoveryDelay : Nat
  wtxDelay : Nat
  sSettleDelay : Nat
  recvTimeout : Nat
  recoveryResetStatus : ResetVerdict
  deriving DecidableEq, Repr, Inhabited

/-- The configuration with the default of R5 (and the code tables of R68 and R72) wherever the spec supplies
one, and an open constant wherever it supplies none (log entries 1 and 6). -/
def Cfg.standard : Cfg where
  addrTxEse := 0x5A#8
  addrTxEuicc := Config.addrTxEuicc
  addrRxEse := 0xA5#8
  addrRxEuicc := Config.addrRxEuicc
  rxAddrCheck := false
  lrcEncFrom := 1
  lrcDecFrom := 1
  iSeqBit := 6
  iChainBit := 5
  rSeqBit := 4
  rErrNone := 0#2
  rErrParity := 1#2
  rErrOther := 2#2
  rErrMissing := 3#2
  sCodeResync := 0x00#5
  sCodeIfs := 0x01#5
  sCodeAbort := 0x02#5
  sCodeWtx := 0x03#5
  sCodeEndOfSession := 0x05#5
  sCodeHardReset := 0x06#5
  sCodeAtr := 0x07#5
  sCodeIntfReset := 0x0F#5
  sRspBit := 5
  ifsDefault := 254
  ifsMaxInit := 254
  rnackRetryLimit := 2
  wtxCounterLimit := Config.wtxCounterLimitPred + 1
  frameRetryCount := 3
  wtxRspPayload := 0x01#8
  closeAllMarker := Config.closeAllMarker
  recoveryDelay := Config.recoveryDelay
  wtxDelay := Config.wtxDelay
  sSettleDelay := Config.sSettleDelay
  recvTimeout := Config.recvTimeout
  recoveryResetStatus := .recoveryExhausted

/-- `ADDR_TX[ep]` (R61). -/
def Cfg.addrTx (c : Cfg) : Endpoint → Byte
  | .ese => c.addrTxEse
  | .euicc => c.addrTxEuicc

/-- `ADDR_RX[ep]` (R61). -/
def Cfg.addrRx (c : Cfg) : Endpoint → Byte
  | .ese => c.addrRxEse
  | .euicc => c.addrRxEuicc

/-- `S_CODE[t]` (R72). -/
def Cfg.sCode (c : Cfg) : SType → BitVec 5
  | .resync => c.sCodeResync
  | .ifs => c.sCodeIfs
  | .abort => c.sCodeAbort
  | .wtx => c.sCodeWtx
  | .endOfSession => c.sCodeEndOfSession
  | .hardReset => c.sCodeHardReset
  | .atr => c.sCodeAtr
  | .intfReset => c.sCodeIntfReset

/-- `R_ERR_CODE[e]` (R68); the class undefined-error has no code, it is never sent. -/
def Cfg.rErrCode (c : Cfg) : ErrClass → Option (BitVec 2)
  | .none => some c.rErrNone
  | .parity => some c.rErrParity
  | .other => some c.rErrOther
  | .missing => some c.rErrMissing
  | .undefined => none

/-- The value of `RECOVERY_RESET_STATUS` as a `STATUS` (R241). -/
def Cfg.recoveryStatus (c : Cfg) : Status :=
  match c.recoveryResetStatus with
  | .recoveryExhausted => .recoveryExhausted
  | .ok => .ok

end Sys2Proof
end

