-- ==== Sys2Proof/Syntax.lean ====
section
/-! DEFINITION. The instruction set: one constructor per row of spec/opcode_table.json. -/

namespace Sys2Proof

/-- The operations of the block.

The wire frames (the rows keyed on the PCB byte) are the instructions the block fetches from the channel: their
operands are the fields a decoder reads from the frame (R66 to R70). The host operations (R200 to R216) are what
the host issues, and the remaining rows are the block's own operations, each with the operands its rule names. -/
inductive Instr where
  -- the wire frames
  /-- `I` in the short form (R62, R67): sequence bit, chaining bit, payload. -/
  | iShort (seq chained : Bit) (payload : Bytes)
  /-- `I.EXT`, the I-frame with the extended length (R63). -/
  | iExt (seq chained : Bit) (payload : Bytes)
  /-- `LOCK`, the zero-payload dummy I-frame (R108). -/
  | lock (seq : Bit)
  /-- `R.ACK` (R64, R68): the expected next sequence bit. -/
  | rAck (seq : Bit)
  /-- `R.NACK.PARITY` (R68). -/
  | rNackParity (seq : Bit)
  /-- `R.NACK.OTHER` (R68). -/
  | rNackOther (seq : Bit)
  /-- `R.NACK.MISSING` (R68). -/
  | rNackMissing (seq : Bit)
  /-- `R.UNDEF`, the row with reserved bit 5 set (R68, R126). -/
  | rUndefBit5 (seq : Bit)
  /-- `R.UNDEF`, the row with bit 5 clear and reserved bit 3 set (R68, R126). -/
  | rUndefBit3 (seq : Bit)
  /-- `R.UNDEF`, the row with bits 5 and 3 clear and reserved bit 2 set (R68, R126). -/
  | rUndefBit2 (seq : Bit)
  /-- `S.RESYNCH_REQ` (R65, R71) and its payload; so for each of the sixteen subtypes. -/
  | sResynchReq (payload : Bytes)
  | sResynchRsp (payload : Bytes)
  | sIfsReq (payload : Bytes)
  | sIfsRsp (payload : Bytes)
  | sAbortReq (payload : Bytes)
  | sAbortRsp (payload : Bytes)
  | sWtxReq (payload : Bytes)
  | sWtxRsp (payload : Bytes)
  | sEndOfSessionReq (payload : Bytes)
  | sEndOfSessionRsp (payload : Bytes)
  | sHardResetReq (payload : Bytes)
  | sHardResetRsp (payload : Bytes)
  | sAtrReq (payload : Bytes)
  | sAtrRsp (payload : Bytes)
  | sIntfResetReq (payload : Bytes)
  | sIntfResetRsp (payload : Bytes)
  /-- `S.UNKNOWN`: an S-frame whose 6-bit code is in no row (R76). -/
  | sUnknown (code : BitVec 6) (payload : Bytes)
  -- the host operations
  /-- `open(init_params)` (R201); `none` is a null record or a mode the spec does not name. -/
  | openSession (mode : Option InitMode)
  /-- `transceive(cmd)` (R203); `none` is the null buffer. -/
  | transceive (cmd : Option BufRef)
  /-- `acquire_lock(is_first)` (R206). -/
  | acquireLock (isFirst : Bool)
  /-- `release()` (R214). -/
  | release
  /-- `reset()` (R207). -/
  | reset
  /-- `close()` (R208). -/
  | close
  /-- `close_all_sessions()` (R209). -/
  | closeAllSessions
  /-- `set_ifs(size)` (R210). -/
  | setIfs (size : Nat)
  /-- `get_ifs()` (R211). -/
  | getIfs
  /-- `get_atr()` (R212). -/
  | getAtr
  /-- `set_endpoint(ep)` (R215); `none` is a value outside the two endpoints. -/
  | setEndpoint (ep : Option Endpoint)
  /-- `reset_endpoint()` (R216). -/
  | resetEndpoint
  -- the block's own operations
  /-- `compute_lrc(buf, offset, end)` (R91), `end` exclusive. -/
  | computeLrc (buf : Bytes) (offset stop : Nat)
  /-- `check_lrc(F)` (R93). -/
  | checkLrc (F : Bytes)
  /-- `encode_iframe(ctx)` (R100). -/
  | encodeIframe (ctx : TxCtx)
  /-- `encode_rframe(kind, err, seqbit)` (R102). -/
  | encodeRframe (kind : AckKind) (err : ErrClass) (seq : Bit)
  /-- `encode_sframe(subtype, payload)` (R103). -/
  | encodeSframe (subtype : SSub) (payload : Bytes)
  /-- `encode_lock(ctx)` (R108). -/
  | encodeLock (ctx : TxCtx)
  /-- `decode(F)` (R120). -/
  | decode (F : Bytes)
  /-- `seed_iframe(buf, n)` (R140). -/
  | seedIframe (buf : Option BufRef) (n : Nat)
  /-- `next_iframe_ctx()` (R142). -/
  | nextIframeCtx
  /-- `seed_lock()` (R141). -/
  | seedLock
  /-- `seed_sframe(subtype, payload)` (R146). -/
  | seedSframe (subtype : SSub) (payload : Bytes)
  /-- `seed_rframe(kind, err)` (R147). -/
  | seedRframe (kind : AckKind) (err : ErrClass)
  /-- `step()` (R160). -/
  | step
  /-- `run()` (R161). -/
  | run
  /-- `dispatch(frame)` (R180). -/
  | dispatch (f : Frame)
  /-- `retry_policy()` (R236). -/
  | retryPolicy
  /-- `guarded(action)` (R237). -/
  | guarded (action : GuardedAction)
  /-- `retransmit()` (R240). -/
  | retransmit
  /-- `recovery_procedure()` (R241). -/
  | recoveryProcedure
  /-- `give_up()` (R242). -/
  | giveUp
  /-- `reset_params()` (R271). -/
  | resetParams
  /-- `power_on_reset()` (R270). -/
  | powerOnReset
  deriving DecidableEq, Repr

/-- The twelve host operations (R79, R200 to R216). -/
def Instr.isHostOp : Instr → Bool
  | .openSession _ | .transceive _ | .acquireLock _ | .release | .reset | .close
  | .closeAllSessions | .setIfs _ | .getIfs | .getAtr | .setEndpoint _ | .resetEndpoint => true
  | _ => false

/-- The LRC and codec operations, "pure functions usable in any mode" (R260). -/
def Instr.isCodecOp : Instr → Bool
  | .computeLrc _ _ _ | .checkLrc _ | .encodeIframe _ | .encodeRframe _ _ _
  | .encodeSframe _ _ | .encodeLock _ | .decode _ => true
  | _ => false

/-- What can come to the block from outside the sequencer (log entry 7): the host operations, the codec
operations (R260) and power-on reset (R270). The other operations are called by the rules alone. -/
def Instr.hostCallable (i : Instr) : Bool :=
  i.isHostOp || i.isCodecOp || decide (i = .powerOnReset)

end Sys2Proof
end

