-- ==== Sys2Proof/Decode.lean ====
section
/-! DEFINITION. The LRC unit (spec/40_lrc.md), the frame decoder (spec/42_decode.md) and, after it, the frame
formats the encoder writes (spec/30_encoding.md, spec/41_encode.md). -/

namespace Sys2Proof

/-! ## Bit fields and byte order -/

/-- The byte with bit `k` equal to `b` and every other bit 0 (`b << k`). -/
def bitAt (k : Nat) (b : Bit) : Byte := if b then 1#8 <<< k else 0#8

/-- Bit `k` of a byte (R6). -/
def bitOf (p : Byte) (k : Nat) : Bit := p.getLsbD k

/-- The byte `n mod 256`. -/
def byteOf (n : Nat) : Byte := BitVec.ofNat 8 n

/-- `be16(n)`: the high byte first (R7, R40). -/
def be16 (n : Nat) : Bytes := [byteOf (n / 256), byteOf (n % 256)]

/-- The number two bytes stand for, high byte first (R70). -/
def natOfBe16 (hi lo : Byte) : Nat := 256 * hi.toNat + lo.toNat

/-- The 6-bit subtype code `(is_rsp << S_RSP_BIT) | S_CODE[t]` (R69, R127). -/
def Cfg.sCode6 (c : Cfg) (n : SName) : BitVec 6 :=
  ((bitAt c.sRspBit n.isRsp) ||| (c.sCode n.stype).setWidth 8).setWidth 6

/-- The subtype whose code is `code`, if there is one (R127). -/
def Cfg.subtypeOf (c : Cfg) (code : BitVec 6) : Option SName :=
  SName.all.find? fun n => decide (c.sCode6 n = code)

/-! ## The LRC unit -/

/-- `xor8` (R7). -/
def xor8 (a b : Byte) : Byte := a ^^^ b

/-- The XOR of the bytes of a sequence, folded from the left starting at `0x00` (R7, R90). -/
def xorFold (B : Bytes) : Byte := B.foldl xor8 0x00#8

/-- `lrc(B, a, stop - 1)` (R90), with an exclusive end as in `compute_lrc` (R91): the XOR of `B[a .. stop-1]`,
`0x00` for an empty range. -/
def lrc (B : Bytes) (a stop : Nat) : Byte := xorFold ((B.take stop).drop a)

/-- `check_lrc(F)` for `|F| ≥ 2` (R93): the last byte is the LRC of the bytes from `LRC_DEC_FROM` up to it. -/
def checkLrc (c : Cfg) (F : Bytes) : Bool :=
  F.getLast? == some (lrc F c.lrcDecFrom.val (F.length - 1))

/-! ## The decoder -/

/-- The instruction of a subtype of R71 with its payload. -/
def sInstr : SName → Bytes → Instr
  | .resynchReq, p => .sResynchReq p
  | .resynchRsp, p => .sResynchRsp p
  | .ifsReq, p => .sIfsReq p
  | .ifsRsp, p => .sIfsRsp p
  | .abortReq, p => .sAbortReq p
  | .abortRsp, p => .sAbortRsp p
  | .wtxReq, p => .sWtxReq p
  | .wtxRsp, p => .sWtxRsp p
  | .endOfSessionReq, p => .sEndOfSessionReq p
  | .endOfSessionRsp, p => .sEndOfSessionRsp p
  | .hardResetReq, p => .sHardResetReq p
  | .hardResetRsp, p => .sHardResetRsp p
  | .atrReq, p => .sAtrReq p
  | .atrRsp, p => .sAtrRsp p
  | .intfResetReq, p => .sIntfResetReq p
  | .intfResetRsp, p => .sIntfResetRsp p

/-- `decode_i` (R124, R125): the length field and the payload of an I-frame; `rest` is what follows the byte at
offset 2, the LRC byte included, so that `|F| = 3 + |rest|` and R123 reads `|rest| = L + 1`. -/
def decodeI (c : Cfg) (v : Variant) (pcb len : Byte) (rest : Bytes) : Except DecodeError Instr :=
  if len = Config.lenExtMarker then
    match v, rest with
    | .legacy, _ => .error .malformed
    | .extended, hi :: lo :: body =>
      if body.length = natOfBe16 hi lo + 1 then
        .ok (.iExt (bitOf pcb c.iSeqBit) (bitOf pcb c.iChainBit) (body.take (natOfBe16 hi lo)))
      else .error .malformed
    | .extended, _ => .error .malformed
  else if rest.length = len.toNat + 1 then
    .ok (.iShort (bitOf pcb c.iSeqBit) (bitOf pcb c.iChainBit) (rest.take len.toNat))
  else .error .malformed

/-- The R-frame a PCB stands for (R126): a set reserved bit (5, 3 or 2) gives the undefined-error class,
otherwise the class is the one whose code stands in bits 1:0. Where `R_ERR_CODE` repeats a code, which R68's table
does not, the first class in the order none, parity, other has it, and every code of none of these three reads as
missing, a code of no class too: DESIGN CHOICE, log entry 19. -/
def rInstr (c : Cfg) (pcb : Byte) : Instr :=
  let n := bitOf pcb c.rSeqBit
  let e := pcb.extractLsb' 0 2
  if bitOf pcb 5 then .rUndefBit5 n
  else if bitOf pcb 3 then .rUndefBit3 n
  else if bitOf pcb 2 then .rUndefBit2 n
  else if e = c.rErrNone then .rAck n
  else if e = c.rErrParity then .rNackParity n
  else if e = c.rErrOther then .rNackOther n
  else .rNackMissing n

/-- `decode_r` (R126). -/
def decodeR (c : Cfg) (pcb len : Byte) (rest : Bytes) : Except DecodeError Instr :=
  if len = 0x00#8 ∧ rest.length = 1 then .ok (rInstr c pcb) else .error .malformed

/-- `decode_s` (R127). -/
def decodeS (c : Cfg) (pcb len : Byte) (rest : Bytes) : Except DecodeError Instr :=
  if len = Config.lenExtMarker then .error .malformed
  else if rest.length = len.toNat + 1 then
    match c.subtypeOf (pcb.extractLsb' 0 6) with
    | some n => .ok (sInstr n (rest.take len.toNat))
    | none => .ok (.sUnknown (pcb.extractLsb' 0 6) (rest.take len.toNat))
  else .error .malformed

/-- `decode(F)` (R121): too short, then the LRC, then the address (R122), then the structural tests of the
frame's kind, which the top bits of the PCB select (R66). Total on any byte sequence. -/
def decodeInstr (c : Cfg) (v : Variant) (ep : Endpoint) (F : Bytes) : Except DecodeError Instr :=
  match F with
  | addr :: pcb :: len :: rest =>
    if rest = [] then .error .malformed
    else if !checkLrc c F then .error .checksumMismatch
    else if c.rxAddrCheck && addr != c.addrRx ep then .error .malformed
    else if !bitOf pcb 7 then decodeI c v pcb len rest
    else if !bitOf pcb 6 then decodeR c pcb len rest
    else decodeS c pcb len rest
  | _ => .error .malformed

/-- The ATR fields a decoded S-frame carries (R127, R128): `parse_atr` of a non-empty payload of an `ATR_RSP` or
an `INTF_RESET_RSP`. -/
def atrOf (n : SName) (payload : Bytes) : Option AtrFields :=
  if (n = .atrRsp ∨ n = .intfResetRsp) ∧ payload ≠ [] then some (Config.parseAtr payload) else none

/-- The S-frame record of a subtype of R71 (R127). -/
def sFrame (n : SName) (payload : Bytes) : Frame := .s (.named n) payload (atrOf n payload) .none

/-- The record `decode` returns for a wire frame (R120); the other operations are no frames. -/
def Instr.toFrame : Instr → Option Frame
  | .iShort q m p => some (.i q m p)
  | .iExt q m p => some (.i q m p)
  | .lock q => some (.i q false [])
  | .rAck n => some (.r n .ack .none)
  | .rNackParity n => some (.r n .nack .parity)
  | .rNackOther n => some (.r n .nack .other)
  | .rNackMissing n => some (.r n .nack .missing)
  | .rUndefBit5 n => some (.r n .nack .undefined)
  | .rUndefBit3 n => some (.r n .nack .undefined)
  | .rUndefBit2 n => some (.r n .nack .undefined)
  | .sResynchReq p => some (sFrame .resynchReq p)
  | .sResynchRsp p => some (sFrame .resynchRsp p)
  | .sIfsReq p => some (sFrame .ifsReq p)
  | .sIfsRsp p => some (sFrame .ifsRsp p)
  | .sAbortReq p => some (sFrame .abortReq p)
  | .sAbortRsp p => some (sFrame .abortRsp p)
  | .sWtxReq p => some (sFrame .wtxReq p)
  | .sWtxRsp p => some (sFrame .wtxRsp p)
  | .sEndOfSessionReq p => some (sFrame .endOfSessionReq p)
  | .sEndOfSessionRsp p => some (sFrame .endOfSessionRsp p)
  | .sHardResetReq p => some (sFrame .hardResetReq p)
  | .sHardResetRsp p => some (sFrame .hardResetRsp p)
  | .sAtrReq p => some (sFrame .atrReq p)
  | .sAtrRsp p => some (sFrame .atrRsp p)
  | .sIntfResetReq p => some (sFrame .intfResetReq p)
  | .sIntfResetRsp p => some (sFrame .intfResetRsp p)
  | .sUnknown c p => some (.s (.unknown c) p none .unknownSubtype)
  | _ => none

/-- The result of the operation `decode` (R120): a frame record or an error. -/
inductive DecodeResult where
  | frame (f : Frame)
  | error (e : DecodeError)
  deriving DecidableEq, Repr

/-- `decode(F) -> Frame | DecodeError` (R120). Every instruction the decoder reads is a wire frame, so the last
branch never answers (`decodeInstr_isWire`). -/
def decodeFrame (c : Cfg) (v : Variant) (ep : Endpoint) (F : Bytes) : DecodeResult :=
  match decodeInstr c v ep F with
  | .error e => .error e
  | .ok i =>
    match i.toFrame with
    | some f => .frame f
    | none => .error .malformed

/-! ## The frame formats of the encoder -/

/-- A frame: the bytes written so far and, last, their LRC from `LRC_ENC_FROM` on (R92). -/
def sealFrame (c : Cfg) (body : Bytes) : Bytes := body ++ [lrc body c.lrcEncFrom.val body.length]

/-- I-frame PCB `0 s m 0 0 0 0 0` (R67, R100). -/
def pcbI (c : Cfg) (seq chained : Bit) : Byte := bitAt c.iSeqBit seq ||| bitAt c.iChainBit chained

/-- R-frame PCB `1 0 0 n 0 0 e1 e0` (R68, R102). -/
def pcbR (c : Cfg) (seq : Bit) (code : BitVec 2) : Byte :=
  0x80#8 ||| bitAt c.rSeqBit seq ||| code.setWidth 8

/-- S-frame PCB `1 1 c5 c4 c3 c2 c1 c0` (R69, R103). -/
def pcbS (c : Cfg) (n : SName) : Byte :=
  0xC0#8 ||| bitAt c.sRspBit n.isRsp ||| (c.sCode n.stype).setWidth 8

/-- The I-frame in the short form (R62). -/
def frameIShort (c : Cfg) (addr : Byte) (seq chained : Bit) (inf : Bytes) : Bytes :=
  sealFrame c ([addr, pcbI c seq chained, byteOf inf.length] ++ inf)

/-- The I-frame in the extended form (R63). -/
def frameIExt (c : Cfg) (addr : Byte) (seq chained : Bit) (inf : Bytes) : Bytes :=
  sealFrame c ([addr, pcbI c seq chained, Config.lenExtMarker] ++ be16 inf.length ++ inf)

/-- The I-frame of a payload, in the form its length selects (R70, R101). -/
def frameI (c : Cfg) (addr : Byte) (seq chained : Bit) (inf : Bytes) : Bytes :=
  if inf.length ≤ Config.shortLenMax then frameIShort c addr seq chained inf
  else frameIExt c addr seq chained inf

/-- A 4-byte frame with LEN 0 (R64, R108). -/
def frameEmpty (c : Cfg) (addr pcb : Byte) : Bytes := sealFrame c [addr, pcb, 0x00#8]

/-- The S-frame layout (R65). -/
def frameS (c : Cfg) (addr pcb : Byte) (payload : Bytes) : Bytes :=
  sealFrame c ([addr, pcb, byteOf payload.length] ++ payload)

/-- The bytes of a wire frame with the address byte `addr`; `none` for an operation with no wire encoding
(R79). The don't-care bits of the rows are written 0. -/
def encode (c : Cfg) (addr : Byte) : Instr → Option Bytes
  | .iShort q m p => some (frameIShort c addr q m p)
  | .iExt q m p => some (frameIExt c addr q m p)
  | .lock q => some (frameEmpty c addr (pcbI c q false))
  | .rAck n => some (frameEmpty c addr (pcbR c n c.rErrNone))
  | .rNackParity n => some (frameEmpty c addr (pcbR c n c.rErrParity))
  | .rNackOther n => some (frameEmpty c addr (pcbR c n c.rErrOther))
  | .rNackMissing n => some (frameEmpty c addr (pcbR c n c.rErrMissing))
  | .rUndefBit5 n => some (frameEmpty c addr (pcbR c n 0#2 ||| 0x20#8))
  | .rUndefBit3 n => some (frameEmpty c addr (pcbR c n 0#2 ||| 0x08#8))
  | .rUndefBit2 n => some (frameEmpty c addr (pcbR c n 0#2 ||| 0x04#8))
  | .sResynchReq p => some (frameS c addr (pcbS c .resynchReq) p)
  | .sResynchRsp p => some (frameS c addr (pcbS c .resynchRsp) p)
  | .sIfsReq p => some (frameS c addr (pcbS c .ifsReq) p)
  | .sIfsRsp p => some (frameS c addr (pcbS c .ifsRsp) p)
  | .sAbortReq p => some (frameS c addr (pcbS c .abortReq) p)
  | .sAbortRsp p => some (frameS c addr (pcbS c .abortRsp) p)
  | .sWtxReq p => some (frameS c addr (pcbS c .wtxReq) p)
  | .sWtxRsp p => some (frameS c addr (pcbS c .wtxRsp) p)
  | .sEndOfSessionReq p => some (frameS c addr (pcbS c .endOfSessionReq) p)
  | .sEndOfSessionRsp p => some (frameS c addr (pcbS c .endOfSessionRsp) p)
  | .sHardResetReq p => some (frameS c addr (pcbS c .hardResetReq) p)
  | .sHardResetRsp p => some (frameS c addr (pcbS c .hardResetRsp) p)
  | .sAtrReq p => some (frameS c addr (pcbS c .atrReq) p)
  | .sAtrRsp p => some (frameS c addr (pcbS c .atrRsp) p)
  | .sIntfResetReq p => some (frameS c addr (pcbS c .intfResetReq) p)
  | .sIntfResetRsp p => some (frameS c addr (pcbS c .intfResetRsp) p)
  | .sUnknown code p => some (frameS c addr (0xC0#8 ||| code.setWidth 8) p)
  | .openSession _ | .transceive _ | .acquireLock _ | .release | .reset | .close
  | .closeAllSessions | .setIfs _ | .getIfs | .getAtr | .setEndpoint _ | .resetEndpoint
  | .computeLrc _ _ _ | .checkLrc _ | .encodeIframe _ | .encodeRframe _ _ _
  | .encodeSframe _ _ | .encodeLock _ | .decode _ | .seedIframe _ _ | .nextIframeCtx
  | .seedLock | .seedSframe _ _ | .seedRframe _ _ | .step | .run | .dispatch _
  | .retryPolicy | .guarded _ | .retransmit | .recoveryProcedure | .giveUp
  | .resetParams | .powerOnReset => none

/-! ## Words of the opcode table -/

/-- `n` bytes of `w`, the least significant first. -/
def wordBytes : Nat → Nat → Bytes
  | 0, _ => []
  | n + 1, w => byteOf w :: wordBytes n (w / 256)

/-- Whether a table word is an I-frame with the extended length (the row `I.EXT`: LEN byte `0xFF`, R63). -/
def tableWordIsExt (w : Nat) : Bool :=
  !bitOf (byteOf w) 7 && byteOf (w / 256) == Config.lenExtMarker

/-- What follows the address byte of a table word: the PCB is the word's first byte, the length field and the
payload follow, and every bit above the word is 0. -/
def tableWordBody (w : Nat) : Bytes :=
  if tableWordIsExt w then
    wordBytes 4 w ++ wordBytes (natOfBe16 (byteOf (w / 65536)) (byteOf (w / 16777216))) (w / 4294967296)
  else wordBytes 2 w ++ wordBytes (byteOf (w / 256)).toNat (w / 65536)

/-- The received frame of a table word of `nbits` bits: the expected address byte, the word, and the LRC byte
the receiver checks (R93). -/
def tableFrame (c : Cfg) (ep : Endpoint) (nbits w : Nat) : Bytes :=
  let body := c.addrRx ep :: tableWordBody (w % 2 ^ nbits)
  body ++ [lrc body c.lrcDecFrom.val body.length]

/-- The instruction the decoder reads from a row's word, in the standard configuration. The extended variant
gives every short frame the same result as the legacy one (spec/95_test_vectors.md, section 2.5). -/
def decodeTableWord (nbits w : Nat) : Option Instr :=
  match decodeInstr Cfg.standard .extended .ese (tableFrame Cfg.standard .ese nbits w) with
  | .ok i => some i
  | .error _ => none

end Sys2Proof
end

