-- ==== Sys2Proof/Machine/State.lean ====
section
/-! DEFINITION. The state of the block (spec/10_state.md R10), the reasons a step can stop, and the state after
power-on reset (R28, R270). -/

namespace Sys2Proof
namespace Machine

/-- The sequencer state `PSTATE` (R12). -/
inductive PState where
  | idle
  | sendIframe
  | sendRAck
  | sendRNack
  | sendSResync
  | sendSIntfReset
  | sendSIfsAdjust
  | sendSEndOfSession
  | sendSWtxResponse
  | sendSHardReset
  | sendSAtrRequest
  | sendLockAcquire
  deriving DecidableEq, Repr, Inhabited

/-- The top-level protocol state `TOP` (R23), the block's only mode register (R260). -/
inductive TopState where
  | idle
  | transceive
  | deinit
  deriving DecidableEq, Repr, Inhabited

/-- The diagnostic register `CAUSE` (R16). -/
inductive Cause where
  | none
  | checksumMismatch
  | malformed
  | timeout
  | ioFailure
  | unknownSubtype
  | sequenceMismatch
  deriving DecidableEq, Repr, Inhabited

/-- The session variables `SV` (R19 to R22). -/
structure SessionVars where
  ifsDefault : Nat
  ifsMax : Nat
  ifsCurrent : Nat
  wtxCounter : Nat
  wtxCounterLimit : Nat
  rnackRetryCounter : Nat
  rnackRetryLimit : Nat
  recoveryCounter : Nat
  atr : Option AtrFields
  deriving DecidableEq, Repr, Inhabited

/-- An endpoint snapshot (R25): a copy of the active protocol state. -/
structure Snapshot where
  pstate : PState
  top : TopState
  status : Status
  cause : Cause
  variant : Variant
  ntx : TxCtx
  ltx : TxCtx
  rxc : RxCtx
  sv : SessionVars
  rlist : List Bytes
  deriving DecidableEq, Repr, Inhabited

/-- The application command memory of the host (R26, R41): the bytes that are not zero, by rising address. An
unlisted address reads `0x00` (log entry 8). -/
abbrev Memory := List Host.Cell

/-- The canonical form of a memory: addresses strictly rising, and no entry that equals what an unlisted address
reads. -/
def Memory.wf (m : Memory) : Bool :=
  decide (m.Pairwise fun x y => x.1 < y.1) && m.all fun x => decide (x.2 ≠ 0x00#8)

/-- An error a host operation returns (R204, R230). -/
inductive HostError where
  | busy
  | invalidParameter
  | recoveryExhausted
  | transceiveFailed
  | ioFailure
  deriving DecidableEq, Repr, Inhabited

/-- The value the last operation that ended returned to its caller (R204; R161, R90, R93, R104, R120 for the
block's own operations). The model's own field. -/
inductive Ret where
  | nothing
  | ok
  | okBytes (b : Bytes)
  | okNat (n : Nat)
  | err (e : HostError)
  | errPartial (e : HostError) (b : Bytes)
  | byte (b : Byte)
  | bool (b : Bool)
  | frameBytes (F : Bytes)
  | decoded (r : DecodeResult)
  | status (st : Status)
  deriving DecidableEq, Repr

/-- What is left to do of a host operation when its `run` ends, or `bare` for a `run` that no host operation
called (R161, R201 to R212). `transceive` holds the command buffer it was called with, which must not change until its
return (R281). -/
inductive Cont where
  | bare
  | openHandshake
  | openAtr
  | transceive (cmd : BufRef)
  | acquireLock
  | resetResync
  | resetHard
  | resetAtr
  | close
  | closeAll
  | setIfs
  | getAtr
  deriving DecidableEq, Repr, Inhabited

/-- Where the block stands in an operation, which is a sequence of transitions (R50, R200): at rest, or in the
loop of `run` with what follows it. The model's own field (log entry 9). -/
inductive Ctl where
  | atRest
  | running (k : Cont)
  deriving DecidableEq, Repr, Inhabited

/-- A call of the Channel Adapter, as the outside sees it (R45 to R47). -/
inductive ChEvent where
  | sent (F : Bytes) (a : SendAnswer)
  | received (timeout : Nat) (a : RecvAnswer)
  | slept (duration : Nat)
  deriving DecidableEq, Repr

/-- What the host does before a transition: it calls an operation, stores a byte in its own memory (R41, R51),
or stays quiet. -/
inductive HostEvent where
  | call (i : Instr)
  | store (addr : Nat) (v : Byte)
  | quiet
  deriving DecidableEq, Repr

/-- The machine: the tuple of R10, the two frame buffers (R43), the application command memory (R41), the
configuration (R5), and the model's own fields: the operation in progress, the returned value, the record of
the channel calls, and what the host and the adapter will do. -/
structure State where
  /-- The implementation parameters (R5); nothing writes them. -/
  cfg : Cfg
  pstate : PState
  top : TopState
  status : Status
  cause : Cause
  variant : Variant
  epsel : Endpoint
  ntx : TxCtx
  ltx : TxCtx
  rxc : RxCtx
  sv : SessionVars
  rlist : List Bytes
  epEse : Snapshot
  epEuicc : Snapshot
  txf : Bytes
  rxf : Bytes
  mem : Memory
  ctl : Ctl
  ret : Ret
  /-- The channel calls made so far, the latest first. -/
  trace : List ChEvent
  /-- The adapter's answers to the next `ChSend` calls; after them `Config.freeSend` answers (R48). -/
  sendScript : List SendAnswer
  /-- The adapter's answers to the next `ChRecv` calls; after them `Config.freeRecv` answers (R48). -/
  recvScript : List RecvAnswer
  /-- What the host does before the next transitions; after them it stays quiet. -/
  hostIn : List HostEvent
  /-- The counter that makes each free value a fresh one. -/
  tick : Nat
  deriving DecidableEq, Repr

/-- The faults. -/
inductive Fault where
  /-- Raised by `MemRead` of a null reference or past the end of the buffer, in `encode_iframe` alone: "refused
  (no value)" (R42, U8). Safe: the spec gives no value, and the model goes no further. -/
  | memReadOutside
  deriving DecidableEq, Repr

/-- The refusals. -/
inductive Refusal where
  /-- An instruction that has no meaning yet, raised in `exec` alone. Safe. -/
  | notModelled (mnemonic : String)
  /-- `step` in a state where `PSTATE` and `NTX` disagree (R169, U4: "gives the step no meaning"). Safe. -/
  | sendStateMismatch
  /-- `step` in a state where the encoder raises `InvalidParameter` (R169, U4). Safe. -/
  | encoderRaised
  /-- The replay of a last S-frame whose subtype no state sends (R239: its map is that of R146, which has no
  entry). Safe. -/
  | noStateForSubtype
  /-- `next_iframe_ctx` where its precondition `NTX.I.chained = 1` does not hold (R142). Safe. -/
  | nothingChained
  /-- `next_iframe_ctx` where the subtraction would go below zero, which R152 excludes. Safe. -/
  | lengthUnderflow
  /-- The host changes a byte of the command buffer in use while `TOP ≠ Idle` (R51, R281, U7: "refuse"). Safe. -/
  | bufferChangedInUse
  /-- The host calls an operation that only the rules call (R19, R26: it reaches the block "only through the
  operations"). Safe. -/
  | notHostCallable
  deriving DecidableEq, Repr

/-- The outcome of an operation. -/
abbrev Result := Host.Outcome State Fault Refusal

/-- The transmit contexts after `reset_params` (R28, R271). -/
def initialTx (c : Cfg) : TxCtx where
  ftype := .none
  i := { buf := none, offset := 0, remaining := 0, fragLen := 0, maxLen := c.ifsDefault,
         seq := Config.seqInit, chained := false }
  r := { kind := .ack, err := .none, seq := Config.seqInit }
  s := { subtype := .invalid, payload := [] }

/-- The receive context after `reset_params` (R28, R271). -/
def initialRx : RxCtx where
  ftype := .none
  iSeq := Config.seqInit
  iChained := false
  rSeq := Config.seqInit
  rErr := .none
  sSubtype := .invalid

/-- The session variables after `reset_params` (R28, R271). -/
def initialSv (c : Cfg) : SessionVars where
  ifsDefault := c.ifsDefault
  ifsMax := c.ifsMaxInit
  ifsCurrent := c.ifsDefault
  wtxCounter := 0
  wtxCounterLimit := c.wtxCounterLimit
  rnackRetryCounter := 0
  rnackRetryLimit := c.rnackRetryLimit
  recoveryCounter := 0
  atr := none

/-- The active protocol state after power-on reset, which both snapshots hold (R25, R270). -/
def initialSnapshot (c : Cfg) : Snapshot where
  pstate := .idle
  top := .idle
  status := .ok
  cause := .none
  variant := .legacy
  ntx := initialTx c
  ltx := initialTx c
  rxc := initialRx
  sv := initialSv c
  rlist := []

/-- The machine right after power-on reset (R28, R270), in the standard configuration. The contents of the two
frame buffers are unspecified there; `[]` is the model's choice (log entry 4). -/
def State.reset : State where
  cfg := Cfg.standard
  pstate := .idle
  top := .idle
  status := .ok
  cause := .none
  variant := .legacy
  epsel := .ese
  ntx := initialTx Cfg.standard
  ltx := initialTx Cfg.standard
  rxc := initialRx
  sv := initialSv Cfg.standard
  rlist := []
  epEse := initialSnapshot Cfg.standard
  epEuicc := initialSnapshot Cfg.standard
  txf := []
  rxf := []
  mem := []
  ctl := .atRest
  ret := .nothing
  trace := []
  sendScript := []
  recvScript := []
  hostIn := []
  tick := 0

end Machine
end Sys2Proof
end

