-- ==== Sys2Proof/Machine/Operands.lean ====
section
/-! DEFINITION. Operands: bytes of the application command memory, the IFS value in a payload, and the
state that sends an S-frame subtype. -/

namespace Sys2Proof
namespace Machine

/-- One byte of the application command memory; an unlisted address reads `0x00` (log entry 8). -/
def Memory.read : Memory → Nat → Byte
  | [], _ => 0x00#8
  | (b, v) :: m, a => if b = a then v else Memory.read m a

/-- The host's store of one byte, which keeps the canonical form: the value an unlisted address reads removes
the entry. The block itself never writes this memory (R41). -/
def Memory.write : Memory → Nat → Byte → Memory
  | [], a, v => if v = 0x00#8 then [] else [(a, v)]
  | (b, w) :: m, a, v =>
    if a < b then (if v = 0x00#8 then (b, w) :: m else (a, v) :: (b, w) :: m)
    else if a = b then (if v = 0x00#8 then m else (a, v) :: m)
    else (b, w) :: Memory.write m a v

/-- The `n` bytes of the memory from address `a` on. -/
def Memory.slice (m : Memory) (a n : Nat) : Bytes := (List.range n).map fun k => Memory.read m (a + k)

/-- The contents of a command buffer (R41). -/
def bufBytes (m : Memory) (b : BufRef) : Bytes := Memory.slice m b.base b.len

/-- `MemRead(buf, off, n)` (R42): no value from `null` or past the end of the buffer. -/
def memRead (m : Memory) (buf : Option BufRef) (off n : Nat) : Option Bytes :=
  match buf with
  | none => none
  | some b => if off + n ≤ b.len then some (Memory.slice m (b.base + off) n) else none

/-- Whether address `a` lies in a command buffer. -/
def covers (buf : Option BufRef) (a : Nat) : Bool :=
  match buf with
  | none => false
  | some b => decide (b.base ≤ a) && decide (a < b.base + b.len)

/-- The IFS value of an `IFS_RSP` payload of one or two bytes (R190), high byte first (R40). -/
def ifsValue : Bytes → Option Nat
  | [p] => some p.toNat
  | [hi, lo] => some (natOfBe16 hi lo)
  | _ => none

/-- Whether an `IFS_RSP` value is applied (R190). -/
def ifsAcceptable (v : Variant) (n : Nat) : Bool :=
  decide (1 ≤ n) && (decide (v = .extended) || decide (n ≤ Config.shortLenMax))

/-- The payload of an `IFS_REQ` (R73, R210): one byte in the legacy variant, two in the extended one. -/
def ifsPayload (v : Variant) (size : Nat) : Bytes :=
  match v with
  | .legacy => [byteOf size]
  | .extended => be16 size

/-- Whether `set_ifs` takes a size (R210). -/
def ifsSizeValid (s : State) (size : Nat) : Bool :=
  decide (1 ≤ size) && decide (size ≤ s.sv.ifsMax) &&
    (decide (s.variant = .extended) || decide (size ≤ Config.shortLenMax)) &&
    decide (size ≤ Config.extLenMax)

/-- Whether `close_all_sessions` is supported (R209). -/
def closeAllSupported (s : State) : Bool :=
  match s.sv.atr with
  | none => false
  | some a => decide (Config.osVersionCloseAllMin ≤ a.osVersion)

/-- Whether `transceive` takes a command buffer (R203, R140). -/
def cmdValid (cmd : Option BufRef) : Bool :=
  match cmd with
  | none => false
  | some b => decide (1 ≤ b.len) && decide (b.len < Config.lenLimit)

/-- The address byte of transmitted frames, `ADDR_TX[EPSEL]` (R61). -/
def txAddr (s : State) : Byte := s.cfg.addrTx s.epsel

/-- The state that sends an S-frame subtype (R146); no state sends the others. -/
def stateOfName : SName → Option PState
  | .resynchReq => some .sendSResync
  | .ifsReq => some .sendSIfsAdjust
  | .wtxRsp => some .sendSWtxResponse
  | .atrReq => some .sendSAtrRequest
  | .intfResetReq => some .sendSIntfReset
  | .endOfSessionReq => some .sendSEndOfSession
  | .hardResetReq => some .sendSHardReset
  | .resynchRsp | .ifsRsp | .abortReq | .abortRsp | .wtxReq | .endOfSessionRsp
  | .hardResetRsp | .atrRsp | .intfResetRsp => none

/-- `state_of` (R146, R239) on the contents of a subtype register. -/
def stateOf : SSub → Option PState
  | .named n => stateOfName n
  | .unknown _ => none
  | .invalid => none

end Machine
end Sys2Proof
end

