-- ==== Sys2Proof/Machine/Flags.lean ====
section
/-! DEFINITION. The flags and counters: `STATUS`, `CAUSE`, the three retry counters (R15, R16, R21), the record
of channel calls and the returned value. -/

namespace Sys2Proof
namespace Machine

/-- `CAUSE <- c` (R16). -/
def setCause (c : Cause) (s : State) : State := { s with cause := c }

/-- `STATUS <- st; PSTATE <- Idle`: the exchange ends with a terminal outcome (R15). -/
def endExchange (st : Status) (s : State) : State := { s with status := st, pstate := .idle }

/-- `SV.rnack_retry_counter <- n` (R21, R236, R251). -/
def setRnack (n : Nat) (s : State) : State := { s with sv := { s.sv with rnackRetryCounter := n } }

/-- `SV.wtx_counter <- n` (R21, R193, R252). -/
def setWtx (n : Nat) (s : State) : State := { s with sv := { s.sv with wtxCounter := n } }

/-- `SV.recovery_counter <- n` (R21, R237, R241, R250). -/
def setRecovery (n : Nat) (s : State) : State := { s with sv := { s.sv with recoveryCounter := n } }

/-- A channel call happens (R45 to R47); a sleep is an event and nothing else (R47). -/
def note (e : ChEvent) (s : State) : State := { s with trace := e :: s.trace }

/-- The operation returns a value to its caller. -/
def setRet (r : Ret) (s : State) : State := { s with ret := r }

/-- The error name of a frame that did not decode, as `CAUSE` holds it (R160, R230). -/
def causeOf : DecodeError → Cause
  | .checksumMismatch => .checksumMismatch
  | .malformed => .malformed

/-- The error a host operation returns for a terminal status (R202, R204). -/
def errorOf : Status → Option HostError
  | .ok => none
  | .recoveryExhausted => some .recoveryExhausted
  | .transceiveFailed => some .transceiveFailed
  | .ioFailure => some .ioFailure

/-- `Ok(())` for the status Ok, `Err(st)` for another (R204). -/
def retOfStatus (st : Status) : Ret :=
  match errorOf st with
  | none => .ok
  | some e => .err e

end Machine
end Sys2Proof
end

