-- ==== Sys2Proof/Machine/Ops.lean ====
section
/-! DEFINITION. The shared operations: the context preparations (spec/43_chaining.md), the two resets
(spec/70_reset_and_hazards.md), and what this block has in the place of taking an exception and returning from it
(spec/60_exceptions.md): the retry policy, the guard, the retransmission, the recovery procedure and the give-up
path write `CAUSE`, one counter, `NTX` and `PSTATE` (R234); the "return" is the clearing of a counter by the next
expected frame (R250 to R252, R254). -/

namespace Sys2Proof
namespace Machine

/-- An operation returns an error and writes nothing else (R8 `raise`). -/
def raise (e : HostError) (s : State) : State := setRet (.err e) s

/-! ## Context preparation -/

/-- `seed_iframe(buf, n)` after its checks (R140): the first fragment of a command. -/
def loadIframe (buf : Option BufRef) (n : Nat) (s : State) : State :=
  { s with
    rlist := []
    ntx := { s.ntx with
      ftype := .i
      i := { buf := buf, offset := 0, remaining := n, maxLen := s.sv.ifsCurrent,
             chained := decide (s.sv.ifsCurrent < n),
             fragLen := if s.sv.ifsCurrent < n then s.sv.ifsCurrent else n,
             seq := !s.ntx.i.seq } }
    pstate := .sendIframe }

/-- Whether `seed_iframe` takes its operands (R140). -/
def seedIframeValid (buf : Option BufRef) (n : Nat) : Bool :=
  buf.isSome && decide (1 ≤ n) && decide (n < Config.lenLimit)

/-- The I sub-record of the next fragment (R142): offset and remaining length move by the old fragment size. -/
def nextFragment (x : IRec) : IRec :=
  { x with
    offset := x.offset + x.fragLen
    remaining := x.remaining - x.fragLen
    chained := decide (x.maxLen < x.remaining - x.fragLen)
    fragLen := if x.maxLen < x.remaining - x.fragLen then x.maxLen else x.remaining - x.fragLen
    seq := !x.seq }

/-- `next_iframe_ctx()` (R142), with its precondition `NTX.I.chained = 1`. -/
def nextIframe (s : State) : Result :=
  if s.ntx.i.chained = false then .refused .nothingChained
  else if s.ntx.i.remaining < s.ntx.i.fragLen then .refused .lengthUnderflow
  else .next { s with ntx := { s.ntx with ftype := .i, i := nextFragment s.ntx.i } }

/-- `seed_lock()` (R141). -/
def loadLock (s : State) : State :=
  { s with
    rlist := []
    ntx := { s.ntx with
      ftype := .lock
      i := { s.ntx.i with buf := none, offset := 0, remaining := 0, fragLen := 0, chained := false,
                          seq := !s.ntx.i.seq } }
    pstate := .sendLockAcquire }

/-- The writes of `seed_sframe` for the state that sends the subtype (R146). A payload of more than 254 bytes, which
R11 gives no room, is stored whole: DESIGN CHOICE, log entry 27. -/
def loadSframe (n : SName) (payload : Bytes) (ps : PState) (s : State) : State :=
  { s with
    ntx := { s.ntx with ftype := .s, s := { subtype := .named n, payload := payload } }
    pstate := ps }

/-- `seed_sframe(subtype, payload)` (R146): another subtype than the seven raises `InvalidParameter`.
The length of the payload raises nothing (log entry 27). -/
def seedSframe (sub : SSub) (payload : Bytes) (s : State) : State :=
  match sub with
  | .named n =>
    match stateOfName n with
    | some ps => loadSframe n payload ps s
    | none => raise .invalidParameter s
  | .unknown _ => raise .invalidParameter s
  | .invalid => raise .invalidParameter s

/-- `seed_rframe(kind, err)` (R147): the bit is that of the I-frame expected next (R145). -/
def loadRframe (kind : AckKind) (err : ErrClass) (s : State) : State :=
  { s with
    ntx := { s.ntx with ftype := .r, r := { kind := kind, err := err, seq := !s.rxc.iSeq } }
    pstate := (match kind with | .ack => .sendRAck | .nack => .sendRNack) }

/-- `write_ifs(v)` (R213). It writes `NTX` and not `LTX`, so that the two may then differ in `max_len`, where R149
says that their I sub-records are equal: DEDUCED, log entry 29. -/
def writeIfs (v : Nat) (s : State) : State :=
  { s with
    sv := { s.sv with ifsCurrent := v }
    ntx := { s.ntx with i := { s.ntx.i with maxLen := v } } }

/-- The command is no longer pending in a context (R203). -/
def dropBuffer (x : TxCtx) : TxCtx :=
  { x with i := { x.i with buf := none, offset := 0, remaining := 0, fragLen := 0, chained := false } }

/-- `release_buffer()` (R203). -/
def releaseBuffer (s : State) : State := { s with ntx := dropBuffer s.ntx, ltx := dropBuffer s.ltx }

/-! ## The two resets -/

/-- `reset_params()` (R271). -/
def resetParams (s : State) : State :=
  { s with
    pstate := .idle
    status := .ok
    cause := .none
    ntx := initialTx s.cfg
    ltx := initialTx s.cfg
    rxc := initialRx
    sv := initialSv s.cfg
    rlist := [] }

/-- A copy of the active state (R25). -/
def snapshot (s : State) : Snapshot where
  pstate := s.pstate
  top := s.top
  status := s.status
  cause := s.cause
  variant := s.variant
  ntx := s.ntx
  ltx := s.ltx
  rxc := s.rxc
  sv := s.sv
  rlist := s.rlist

/-- The active state is the snapshot (R215). -/
def loadSnapshot (x : Snapshot) (s : State) : State :=
  { s with
    pstate := x.pstate
    top := x.top
    status := x.status
    cause := x.cause
    variant := x.variant
    ntx := x.ntx
    ltx := x.ltx
    rxc := x.rxc
    sv := x.sv
    rlist := x.rlist }

/-- The snapshot of an endpoint (R25). -/
def endpointOf (s : State) : Endpoint → Snapshot
  | .ese => s.epEse
  | .euicc => s.epEuicc

/-- `EP[ep] <- x` (R25). -/
def setEndpointSnapshot (ep : Endpoint) (x : Snapshot) (s : State) : State :=
  match ep with
  | .ese => { s with epEse := x }
  | .euicc => { s with epEuicc := x }

/-- `power_on_reset()` (R270): the frame buffers take unspecified contents, and no operation is in progress. -/
def powerOn (s : State) : State :=
  let r := { resetParams s with top := .idle, variant := .legacy, epsel := .ese, ctl := .atRest }
  { r with
    epEse := snapshot r
    epEuicc := snapshot r
    txf := Config.freeBytes s.tick
    rxf := Config.freeBytes (s.tick + 1)
    tick := s.tick + 2 }

/-! ## Errors: entry and return -/

/-- `retry_policy()` (R236): the frame did not arrive or did not decode. -/
def retryPolicy (s : State) : State :=
  if s.sv.rnackRetryCounter < s.sv.rnackRetryLimit then
    setRnack (s.sv.rnackRetryCounter + 1) (loadRframe .nack .parity s)
  else endExchange .recoveryExhausted s

/-- `give_up()` (R242): a protocol reset that keeps the partial response and the cause. -/
def giveUp (s : State) : State :=
  { resetParams s with rlist := s.rlist, status := .recoveryExhausted, cause := s.cause }

/-- `recovery_procedure()` (R241). -/
def recoveryProcedure (s : State) : State :=
  if s.sv.recoveryCounter ≤ s.cfg.frameRetryCount then
    { setRecovery (s.sv.recoveryCounter + 1) (loadSframe .intfResetReq [] .sendSIntfReset s) with
      status := s.cfg.recoveryStatus }
  else giveUp s

/-- `NTX <- LTX; PSTATE <- state_of(LTX.S.subtype)` (R239, R240). Called by the guard where `LTX.ftype` is not `S`,
which R239's precondition excludes, the copy runs by the subtype that `LTX.S` holds: DESIGN CHOICE, log entry 30. -/
def replayS (s : State) : Result :=
  match stateOf s.ltx.s.subtype with
  | some ps => .next { s with ntx := s.ltx, pstate := ps }
  | none => .refused .noStateForSubtype

/-- A command fragment is pending in `LTX` (R240). -/
def ltxPending (s : State) : Bool := s.ltx.i.buf.isSome && decide (1 ≤ s.ltx.i.fragLen)

/-- `retransmit()` (R240): by the kind of the last frame sent; after an R-frame the received sequence bit
tells which frame the peer missed. -/
def retransmit (s : State) : Result :=
  match s.ltx.ftype with
  | .i => .next { s with ntx := s.ltx, pstate := .sendIframe }
  | .lock => .next { s with ntx := s.ltx, pstate := .sendLockAcquire }
  | .s => replayS s
  | .r =>
    if ltxPending s = true ∧ s.rxc.rSeq = s.ltx.i.seq ∧ s.ltx.r.kind = .nack then
      .next { s with ntx := { s.ltx with ftype := .i }, pstate := .sendIframe }
    else if s.rxc.rSeq ≠ s.ltx.i.seq ∧ s.ltx.r.kind = .ack then
      .next { s with ntx := s.ltx, pstate := .sendRAck }
    else .next (loadRframe .nack .other s)
  | .none => .next (loadRframe .nack .other s)

/-- What the guard does (R237): the action of R238, R239 or R240. -/
def guardedAction : GuardedAction → State → Result
  | .nackOther, s => .next (loadRframe .nack .other s)
  | .retransmit, s => retransmit s
  | .replayS, s => replayS s

/-- `guarded(action)` (R237): the action, counted, while the recovery counter is below its limit; the recovery
procedure otherwise. -/
def guarded (a : GuardedAction) (s : State) : Result :=
  if s.sv.recoveryCounter < s.cfg.frameRetryCount then
    match guardedAction a s with
    | .next t => .next (setRecovery (t.sv.recoveryCounter + 1) t)
    | .fault r => .fault r
    | .refused r => .refused r
  else .next (recoveryProcedure s)

/-! ## The loop of `run` -/

/-- `run()` begins (R161): `STATUS <- Ok; CAUSE <- None`, and the loop goes on until `PSTATE = Idle`, after
which `k` follows. -/
def beginRun (k : Cont) (s : State) : State := { s with status := .ok, cause := .none, ctl := .running k }

/-- The operation ends: `TOP <- Idle` and the result is returned (R200). -/
def endOp (r : Ret) (s : State) : State := { s with top := .idle, ctl := .atRest, ret := r }

end Machine
end Sys2Proof
end

