-- ==== Sys2Proof/Machine/Chaining.lean ====
section
/-! DEFINITION. The context-preparation operations as rows of the opcode table (spec/43_chaining.md). -/

namespace Sys2Proof
namespace Machine

/-- The row `seed_iframe` (R140). -/
def execSeedIframe (buf : Option BufRef) (n : Nat) (s : State) : Result :=
  if seedIframeValid buf n then .next (loadIframe buf n s) else .next (raise .invalidParameter s)

/-- The row `next_iframe_ctx` (R142). -/
def execNextIframeCtx (s : State) : Result := nextIframe s

/-- The row `seed_lock` (R141). -/
def execSeedLock (s : State) : Result := .next (loadLock s)

/-- The row `seed_sframe` (R146). -/
def execSeedSframe (sub : SSub) (payload : Bytes) (s : State) : Result := .next (seedSframe sub payload s)

/-- The row `seed_rframe` (R147). -/
def execSeedRframe (kind : AckKind) (err : ErrClass) (s : State) : Result := .next (loadRframe kind err s)

end Machine
end Sys2Proof
end

