-- ==== Sys2Proof/Machine/Codec.lean ====
section
/-! DEFINITION. The LRC unit and the frame codec as operations of the block (spec/40_lrc.md, spec/41_encode.md,
spec/42_decode.md). -/

namespace Sys2Proof
namespace Machine

/-- What an encode operation gives: a frame, the error `InvalidParameter` (R100, R102, R103), or no value because
`MemRead` has none (R42). -/
inductive EncOut where
  | frame (F : Bytes)
  | raised
  | noValue
  deriving DecidableEq, Repr

/-- `encode_iframe(ctx)` (R100, R101). -/
def encodeI (s : State) (x : TxCtx) : EncOut :=
  if x.i.buf = none ∨ x.i.fragLen = 0 then .raised
  else if Config.shortLenMax < x.i.fragLen ∧ s.variant = .legacy then .raised
  else if Config.extLenMax < x.i.fragLen then .raised
  else
    match memRead s.mem x.i.buf x.i.offset x.i.fragLen with
    | none => .noValue
    | some inf => .frame (frameI s.cfg (txAddr s) x.i.seq x.i.chained inf)

/-- `encode_rframe(kind, err, seqbit)` (R102): an inconsistent pair, or the undefined-error class, is refused
with `InvalidParameter`. -/
def encodeR (s : State) (kind : AckKind) (err : ErrClass) (seq : Bit) : EncOut :=
  if (kind = .ack) ↔ (err = .none) then
    match s.cfg.rErrCode err with
    | some code => .frame (frameEmpty s.cfg (txAddr s) (pcbR s.cfg seq code))
    | none => .raised
  else .raised

/-- `encode_sframe(subtype, payload)` (R103). -/
def encodeS (s : State) (sub : SSub) (payload : Bytes) : EncOut :=
  match sub with
  | .named n =>
    if payload.length ≤ Config.shortLenMax then .frame (frameS s.cfg (txAddr s) (pcbS s.cfg n) payload)
    else .raised
  | .unknown _ => .raised
  | .invalid => .raised

/-- `encode_lock(ctx)` (R108). -/
def encodeL (s : State) (x : TxCtx) : EncOut :=
  .frame (frameEmpty s.cfg (txAddr s) (pcbI s.cfg x.i.seq false))

/-- An encode operation as a transition: `TXF <-` the frame it returns; an error leaves `TXF` unspecified
(R104). -/
def finishEncode (r : EncOut) (s : State) : Result :=
  match r with
  | .frame F => .next { s with txf := F, ret := .frameBytes F }
  | .raised => .next { s with txf := Config.freeBytes s.tick, tick := s.tick + 1, ret := .err .invalidParameter }
  | .noValue => .fault .memReadOutside

/-- `compute_lrc(buf, offset, end)` (R91); outside the domain of R90 the value is free. -/
def execComputeLrc (buf : Bytes) (offset stop : Nat) (s : State) : Result :=
  .next (setRet (.byte (if stop ≤ buf.length then lrc buf offset stop else Config.freeLrc buf offset stop)) s)

/-- `check_lrc(F)` (R93); for fewer than two bytes the value is free. -/
def execCheckLrc (F : Bytes) (s : State) : Result :=
  .next (setRet (.bool (if 2 ≤ F.length then checkLrc s.cfg F else Config.freeCheck F)) s)

/-- The row `encode_iframe`. -/
def execEncodeIframe (x : TxCtx) (s : State) : Result := finishEncode (encodeI s x) s

/-- The row `encode_rframe`. -/
def execEncodeRframe (kind : AckKind) (err : ErrClass) (seq : Bit) (s : State) : Result :=
  finishEncode (encodeR s kind err seq) s

/-- The row `encode_sframe`. -/
def execEncodeSframe (sub : SSub) (payload : Bytes) (s : State) : Result :=
  finishEncode (encodeS s sub payload) s

/-- The row `encode_lock`. -/
def execEncodeLock (x : TxCtx) (s : State) : Result := finishEncode (encodeL s x) s

/-- The row `decode` (R120): a pure function of the bytes, of `VARIANT` and of `EPSEL`. -/
def execDecode (F : Bytes) (s : State) : Result :=
  .next (setRet (.decoded (decodeFrame s.cfg s.variant s.epsel F)) s)

end Machine
end Sys2Proof
end

