-- ==== Sys2Proof/Machine/HostOps.lean ====
section
/-! DEFINITION. The host operations (spec/46_host_ops.md). Each is a sequence of transitions (R50, R200): the call
makes the precondition checks, the seed and the beginning of `run`; the machine then steps until `PSTATE = Idle`;
`finishOp` is what the operation's text says after its `run`. -/

namespace Sys2Proof
namespace Machine

/-- The frame of every operation (R200): `Busy` before `InvalidParameter`, nothing written by either. -/
def hostOp (valid : Bool) (mode : TopState) (body : State → State) (s : State) : Result :=
  if s.top ≠ .idle then .next (raise .busy s)
  else if valid = false then .next (raise .invalidParameter s)
  else .next (body { s with top := mode })

/-- `exchange_s(subtype, payload)` up to its `run` (R202), in the state that sends the subtype. -/
def exchangeS (k : Cont) (n : SName) (payload : Bytes) (ps : PState) (s : State) : State :=
  beginRun k (loadSframe n payload ps s)

/-- `open`: `reset_params`, then the handshake the mode and the variant select (R201). -/
def openBody (m : InitMode) (s : State) : State :=
  match m, s.variant with
  | .intfReset, _ => exchangeS .openHandshake .intfResetReq [] .sendSIntfReset (resetParams s)
  | .resync, .legacy => exchangeS .openHandshake .resynchReq [] .sendSResync (resetParams s)
  | .resync, .extended => exchangeS .openHandshake .hardResetReq [] .sendSHardReset (resetParams s)

/-- The row `open` (R201). -/
def execOpen (mode : Option InitMode) (s : State) : Result :=
  match mode with
  | none => hostOp false .transceive id s
  | some m => hostOp true .transceive (openBody m) s

/-- The body of `transceive` up to its `run` (R203). -/
def transceiveBody (cmd : Option BufRef) (s : State) : State :=
  match cmd with
  | none => s
  | some b => beginRun (.transceive b) (loadIframe (some b) b.len s)

/-- The row `transceive` (R203). -/
def execTransceive (cmd : Option BufRef) (s : State) : Result :=
  hostOp (cmdValid cmd) .transceive (transceiveBody cmd) s

/-- The row `acquire_lock` (R206): `is_first` changes nothing. -/
def execAcquireLock (_isFirst : Bool) (s : State) : Result :=
  hostOp true .transceive (fun t => beginRun .acquireLock (loadLock t)) s

/-- The row `release` (R214): it ends at once. -/
def execRelease (s : State) : Result := hostOp true .transceive (endOp .ok) s

/-- `reset`: `reset_params`, then a resync or a hard reset by the variant (R207). -/
def resetBody (s : State) : State :=
  match s.variant with
  | .legacy => exchangeS .resetResync .resynchReq [] .sendSResync (resetParams s)
  | .extended => exchangeS .resetHard .hardResetReq [] .sendSHardReset (resetParams s)

/-- The row `reset` (R207). -/
def execReset (s : State) : Result := hostOp true .transceive resetBody s

/-- The row `close` (R208). -/
def execClose (s : State) : Result :=
  hostOp true .deinit (exchangeS .close .endOfSessionReq [] .sendSEndOfSession) s

/-- The row `close_all_sessions` (R209). -/
def execCloseAllSessions (s : State) : Result :=
  hostOp (closeAllSupported s) .deinit
    (exchangeS .closeAll .endOfSessionReq [s.cfg.closeAllMarker] .sendSEndOfSession) s

/-- The row `set_ifs` (R210). -/
def execSetIfs (size : Nat) (s : State) : Result :=
  hostOp (ifsSizeValid s size) .transceive
    (exchangeS .setIfs .ifsReq (ifsPayload s.variant size) .sendSIfsAdjust) s

/-- The row `get_ifs` (R211): it ends at once. -/
def execGetIfs (s : State) : Result :=
  hostOp true .transceive (endOp (.okNat s.sv.ifsCurrent)) s

/-- The row `get_atr` (R212). -/
def execGetAtr (s : State) : Result :=
  hostOp true .transceive (exchangeS .getAtr .atrReq [] .sendSAtrRequest) s

/-- The row `set_endpoint` (R215): the active state is not saved. -/
def execSetEndpoint (ep : Option Endpoint) (s : State) : Result :=
  if s.top ≠ .idle then .next (raise .busy s)
  else
    match ep with
    | none => .next (raise .invalidParameter s)
    | some e => .next (setRet .ok { loadSnapshot (endpointOf s e) s with epsel := e })

/-- The row `reset_endpoint` (R216). -/
def execResetEndpoint (s : State) : Result :=
  if s.top ≠ .idle then .next (raise .busy s)
  else .next (setRet .ok (setEndpointSnapshot s.epsel (snapshot s) s))

/-! ## After the `run` -/

/-- `open` writes the IFS from the ATR (R201). -/
def openIfs (s : State) : State :=
  match s.sv.atr with
  | none => s
  | some a => if 1 ≤ a.maxIfsc then writeIfs (min a.maxIfsc Config.extLenMax) s else s

/-- The result of `transceive` (R203): the concatenated entries of `RLIST`, with the error when there is one. -/
def transceiveRet (s : State) : Ret :=
  match errorOf s.status with
  | none => .okBytes s.rlist.flatten
  | some e => .errPartial e s.rlist.flatten

/-- The result of `get_atr` (R212). -/
def atrRet (s : State) : Ret :=
  match s.status, s.sv.atr with
  | .ok, some a => .okBytes a.raw
  | .ok, none => .okBytes []
  | .recoveryExhausted, _ => .err .recoveryExhausted
  | .transceiveFailed, _ => .err .transceiveFailed
  | .ioFailure, _ => .err .ioFailure

/-- What follows the `run` of an operation (R201, R203, R206 to R210, R212), and what a bare `run` returns
(R161). -/
def finishOp (k : Cont) (s : State) : State :=
  match k with
  | .bare => { s with ctl := .atRest, ret := .status s.status }
  | .openHandshake =>
    if s.status = .ok ∧ s.variant = .extended then exchangeS .openAtr .atrReq [] .sendSAtrRequest s
    else endOp (retOfStatus s.status) s
  | .openAtr => if s.status = .ok then endOp .ok (openIfs s) else endOp (retOfStatus s.status) s
  | .transceive _ => endOp (transceiveRet s) (releaseBuffer s)
  | .acquireLock => endOp (retOfStatus s.status) s
  | .resetResync => endOp (retOfStatus s.status) s
  | .resetHard =>
    if s.status = .ok then exchangeS .resetAtr .atrReq [] .sendSAtrRequest s
    else endOp (retOfStatus s.status) s
  | .resetAtr => endOp (retOfStatus s.status) s
  | .close => endOp .ok s
  | .closeAll => endOp (retOfStatus s.status) s
  | .setIfs => endOp (retOfStatus s.status) s
  | .getAtr => endOp (atrRet s) s

end Machine
end Sys2Proof
end

