-- ==== Sys2Proof/Machine/Receive.lean ====
section
/-! DEFINITION. The receive half of a step (spec/45_receive.md): what each decoded frame does, and the meaning of
every wire frame of the opcode table, which is its reception. -/

namespace Sys2Proof
namespace Machine

/-- `accept_i(f)` (R182). -/
def acceptI (seq chained : Bit) (payload : Bytes) (s : State) : State :=
  let t := setRecovery 0
    { s with rxc := { s.rxc with iSeq := seq, iChained := chained }, rlist := s.rlist ++ [payload] }
  if chained then loadRframe .ack .none t else { t with pstate := .idle }

/-- `duplicate_i(f)` (R183): the sleep comes before the guard's test. -/
def duplicateI (s : State) : Result :=
  guarded .nackOther (note (.slept s.cfg.recoveryDelay) (setCause .sequenceMismatch s))

/-- `dispatch_i(f)` (R181). -/
def dispatchI (seq chained : Bit) (payload : Bytes) (s : State) : Result :=
  if seq = !s.rxc.iSeq then .next (acceptI seq chained payload s) else duplicateI s

/-- `advance()` (R185). -/
def advanceFragment (s : State) : Result :=
  match nextIframe (setRecovery 0 s) with
  | .next t => .next { t with pstate := .sendIframe }
  | .fault r => .fault r
  | .refused r => .refused r

/-- The test of an advancing ACK (R184): a chained fragment is pending in `LTX.I`, and the frame carries the bit
after it. -/
def ackAdvances (seq : Bit) (kind : AckKind) (s : State) : Bool :=
  decide (kind = .ack) && s.ltx.i.buf.isSome && s.ltx.i.chained && decide (seq = !s.ltx.i.seq)

/-- `dispatch_r(f)` (R184 to R186). -/
def dispatchR (seq : Bit) (kind : AckKind) (err : ErrClass) (s : State) : Result :=
  let t := { s with rxc := { s.rxc with rSeq := seq, rErr := err } }
  if ackAdvances seq kind t then advanceFragment t else guarded .retransmit (setCause .sequenceMismatch t)

/-- `terminate()` (R188): `STATUS` keeps the value it had. -/
def terminate (s : State) : State := { setRecovery 0 s with pstate := .idle }

/-- `ifs_response(f)` (R190). The value is not compared with `SV.ifs_max`, as R190 says, so that R20's
`ifs_current ≤ ifs_max` may fail: DEDUCED, log entry 32. -/
def ifsResponse (payload : Bytes) (s : State) : State :=
  match ifsValue payload with
  | some v => terminate (if ifsAcceptable s.variant v then writeIfs v s else s)
  | none => terminate s

/-- `apply_atr(f)` (R192): nothing without ATR fields. `SV.ifs_max` may come to lie below `SV.ifs_current`: DEDUCED,
log entry 32. -/
def applyAtr (atr : Option AtrFields) (payload : Bytes) (s : State) : State :=
  match atr with
  | none => s
  | some a => { s with sv := { s.sv with atr := some { a with raw := payload }, ifsMax := a.maxIfsc } }

/-- `intf_reset_response(f)` (R191). -/
def intfResetResponse (atr : Option AtrFields) (payload : Bytes) (s : State) : State :=
  terminate (applyAtr atr payload { s with variant := if payload = [] then .legacy else .extended })

/-- `atr_response(f)` (R192). -/
def atrResponse (atr : Option AtrFields) (payload : Bytes) (s : State) : State :=
  terminate (applyAtr atr payload s)

/-- `wtx_request(f)` (R193). -/
def wtxRequest (s : State) : State :=
  let t := setWtx (s.sv.wtxCounter + 1) s
  if t.sv.wtxCounterLimit ≤ t.sv.wtxCounter then endExchange .transceiveFailed t
  else loadSframe .wtxRsp [t.cfg.wtxRspPayload] .sendSWtxResponse (note (.slept t.cfg.wtxDelay) t)

/-- The last frame sent was a non-WTX S-frame (R194). -/
def lastSentNonWtxS (s : State) : Bool :=
  decide (s.ltx.ftype = .s) && decide (s.ltx.s.subtype ≠ .named .wtxRsp)

/-- `unexpected_s(f)` (R194): `c` is `UnknownSubtype` for an unknown subtype and `SequenceMismatch` otherwise. -/
def unexpectedS (c : Cause) (s : State) : Result :=
  guarded (if lastSentNonWtxS s then .replayS else .nackOther) (setCause c s)

/-- `dispatch_s(f)` (R187). A frame record with the subtype `Invalid`, which `decode` never gives, is an unexpected
S-frame: DESIGN CHOICE, log entry 27. -/
def dispatchS (sub : SSub) (payload : Bytes) (atr : Option AtrFields) (s : State) : Result :=
  let t := { s with rxc := { s.rxc with sSubtype := sub } }
  match sub with
  | .named .wtxReq => .next (wtxRequest t)
  | .named .resynchRsp => .next (terminate t)
  | .named .abortRsp => .next (terminate t)
  | .named .hardResetRsp => .next (terminate t)
  | .named .endOfSessionRsp => .next (terminate t)
  | .named .ifsRsp => .next (ifsResponse payload t)
  | .named .intfResetRsp => .next (intfResetResponse atr payload t)
  | .named .atrRsp => .next (atrResponse atr payload t)
  | .named .resynchReq => unexpectedS .sequenceMismatch t
  | .named .ifsReq => unexpectedS .sequenceMismatch t
  | .named .abortReq => unexpectedS .sequenceMismatch t
  | .named .intfResetReq => unexpectedS .sequenceMismatch t
  | .named .endOfSessionReq => unexpectedS .sequenceMismatch t
  | .named .hardResetReq => unexpectedS .sequenceMismatch t
  | .named .atrReq => unexpectedS .sequenceMismatch t
  | .named .wtxRsp => unexpectedS .sequenceMismatch t
  | .unknown _ => unexpectedS .unknownSubtype t
  | .invalid => unexpectedS .sequenceMismatch t

/-- Whether a frame is a WTX request (R180). -/
def isWtxReq : Frame → Bool
  | .s (.named .wtxReq) _ _ _ => true
  | _ => false

/-- What every decoded frame does first (R180): the R-NACK counter is cleared, and the WTX counter too unless the
frame is a WTX request (R251, R252). A WTX request clears the R-NACK counter too, as R180 and R251 say, where R254
says that it clears neither of the other two: DEDUCED, log entry 31. -/
def clearOnDecode (f : Frame) (s : State) : State :=
  if isWtxReq f then setRnack 0 s else setWtx 0 (setRnack 0 s)

/-- `RXC.ftype <- k` (R180). -/
def setRxKind (k : RxKind) (s : State) : State := { s with rxc := { s.rxc with ftype := k } }

/-- `dispatch(frame)` (R180). -/
def dispatch (f : Frame) (s : State) : Result :=
  match f with
  | .i seq chained payload => dispatchI seq chained payload (setRxKind .i (clearOnDecode f s))
  | .r seq kind err => dispatchR seq kind err (setRxKind .r (clearOnDecode f s))
  | .s sub payload atr _ => dispatchS sub payload atr (setRxKind .s (clearOnDecode f s))

/-- The row `dispatch`. -/
def execDispatch (f : Frame) (s : State) : Result := dispatch f s

/-! ## The wire frames

The meaning of a wire frame is its reception (log entry 10); its transmission is `step` in the state that sends it
(R163), and its bytes are `encode`. -/

/-- `I` (R181 to R183). -/
def execIShort (seq chained : Bit) (payload : Bytes) (s : State) : Result :=
  dispatch (.i seq chained payload) s

/-- `I.EXT` (R181 to R183). -/
def execIExt (seq chained : Bit) (payload : Bytes) (s : State) : Result :=
  dispatch (.i seq chained payload) s

/-- `LOCK`: "received, it is an I-frame with empty payload" (the row's condition; R76, R125, R181, R182). -/
def execLock (seq : Bit) (s : State) : Result := dispatch (.i seq false []) s

/-- `R.ACK` (R184 to R186). -/
def execRAck (seq : Bit) (s : State) : Result := dispatch (.r seq .ack .none) s

/-- `R.NACK.PARITY` (R186). -/
def execRNackParity (seq : Bit) (s : State) : Result := dispatch (.r seq .nack .parity) s

/-- `R.NACK.OTHER` (R186). -/
def execRNackOther (seq : Bit) (s : State) : Result := dispatch (.r seq .nack .other) s

/-- `R.NACK.MISSING` (R186). -/
def execRNackMissing (seq : Bit) (s : State) : Result := dispatch (.r seq .nack .missing) s

/-- `R.UNDEF`, bit 5 set (R126, R186). -/
def execRUndefBit5 (seq : Bit) (s : State) : Result := dispatch (.r seq .nack .undefined) s

/-- `R.UNDEF`, bit 3 set (R126, R186). -/
def execRUndefBit3 (seq : Bit) (s : State) : Result := dispatch (.r seq .nack .undefined) s

/-- `R.UNDEF`, bit 2 set (R126, R186). -/
def execRUndefBit2 (seq : Bit) (s : State) : Result := dispatch (.r seq .nack .undefined) s

/-- `S.RESYNCH_REQ` received (R194). -/
def execSResynchReq (payload : Bytes) (s : State) : Result := dispatch (sFrame .resynchReq payload) s

/-- `S.RESYNCH_RSP` (R189). -/
def execSResynchRsp (payload : Bytes) (s : State) : Result := dispatch (sFrame .resynchRsp payload) s

/-- `S.IFS_REQ` received (R194). -/
def execSIfsReq (payload : Bytes) (s : State) : Result := dispatch (sFrame .ifsReq payload) s

/-- `S.IFS_RSP` (R190). -/
def execSIfsRsp (payload : Bytes) (s : State) : Result := dispatch (sFrame .ifsRsp payload) s

/-- `S.ABORT_REQ` received (R194). -/
def execSAbortReq (payload : Bytes) (s : State) : Result := dispatch (sFrame .abortReq payload) s

/-- `S.ABORT_RSP` (R189). -/
def execSAbortRsp (payload : Bytes) (s : State) : Result := dispatch (sFrame .abortRsp payload) s

/-- `S.WTX_REQ` (R193). -/
def execSWtxReq (payload : Bytes) (s : State) : Result := dispatch (sFrame .wtxReq payload) s

/-- `S.WTX_RSP` received (R194). -/
def execSWtxRsp (payload : Bytes) (s : State) : Result := dispatch (sFrame .wtxRsp payload) s

/-- `S.END_OF_SESSION_REQ` received (R194). -/
def execSEndOfSessionReq (payload : Bytes) (s : State) : Result := dispatch (sFrame .endOfSessionReq payload) s

/-- `S.END_OF_SESSION_RSP` (R189). -/
def execSEndOfSessionRsp (payload : Bytes) (s : State) : Result := dispatch (sFrame .endOfSessionRsp payload) s

/-- `S.HARD_RESET_REQ` received (R194). -/
def execSHardResetReq (payload : Bytes) (s : State) : Result := dispatch (sFrame .hardResetReq payload) s

/-- `S.HARD_RESET_RSP` (R189). -/
def execSHardResetRsp (payload : Bytes) (s : State) : Result := dispatch (sFrame .hardResetRsp payload) s

/-- `S.ATR_REQ` received (R194). -/
def execSAtrReq (payload : Bytes) (s : State) : Result := dispatch (sFrame .atrReq payload) s

/-- `S.ATR_RSP` (R192). -/
def execSAtrRsp (payload : Bytes) (s : State) : Result := dispatch (sFrame .atrRsp payload) s

/-- `S.INTF_RESET_REQ` received (R194). -/
def execSIntfResetReq (payload : Bytes) (s : State) : Result := dispatch (sFrame .intfResetReq payload) s

/-- `S.INTF_RESET_RSP` (R191). -/
def execSIntfResetRsp (payload : Bytes) (s : State) : Result := dispatch (sFrame .intfResetRsp payload) s

/-- `S.UNKNOWN` (R194). -/
def execSUnknown (code : BitVec 6) (payload : Bytes) (s : State) : Result :=
  dispatch (.s (.unknown code) payload none .unknownSubtype) s

end Machine
end Sys2Proof
end

