-- ==== Sys2Proof/Machine/Recovery.lean ====
section
/-! DEFINITION. The error operations and the two resets as rows of the opcode table (spec/60_exceptions.md,
spec/70_reset_and_hazards.md). -/

namespace Sys2Proof
namespace Machine

/-- The row `retry_policy` (R236). -/
def execRetryPolicy (s : State) : Result := .next (retryPolicy s)

/-- The row `guarded` (R237). -/
def execGuarded (a : GuardedAction) (s : State) : Result := guarded a s

/-- The row `retransmit` (R240). -/
def execRetransmit (s : State) : Result := retransmit s

/-- The row `recovery_procedure` (R241). -/
def execRecoveryProcedure (s : State) : Result := .next (recoveryProcedure s)

/-- The row `give_up` (R242). -/
def execGiveUp (s : State) : Result := .next (giveUp s)

/-- The row `reset_params` (R271). -/
def execResetParams (s : State) : Result := .next (resetParams s)

/-- The row `power_on_reset` (R270). -/
def execPowerOnReset (s : State) : Result := .next (powerOn s)

end Machine
end Sys2Proof
end

