-- ==== Sys2Proof/Machine/Sequencer.lean ====
section
/-! DEFINITION. The sequencer (spec/44_sequencer.md): the frame each state sends, one exchange with the Channel
Adapter, `step` and the beginning of `run`. -/

namespace Sys2Proof
namespace Machine

/-- `PSTATE` and `NTX` agree (the column "expected" of R163; R169). -/
def sendStateAgrees (ps : PState) (x : TxCtx) : Bool :=
  match ps with
  | .idle => true
  | .sendIframe => decide (x.ftype = .i)
  | .sendRAck => decide (x.ftype = .r) && decide (x.r.kind = .ack)
  | .sendRNack => decide (x.ftype = .r) && decide (x.r.kind = .nack)
  | .sendSResync => decide (x.ftype = .s) && decide (x.s.subtype = .named .resynchReq)
  | .sendSIntfReset => decide (x.ftype = .s) && decide (x.s.subtype = .named .intfResetReq)
  | .sendSIfsAdjust => decide (x.ftype = .s) && decide (x.s.subtype = .named .ifsReq)
  | .sendSEndOfSession => decide (x.ftype = .s) && decide (x.s.subtype = .named .endOfSessionReq)
  | .sendSWtxResponse => decide (x.ftype = .s) && decide (x.s.subtype = .named .wtxRsp)
  | .sendSHardReset => decide (x.ftype = .s) && decide (x.s.subtype = .named .hardResetReq)
  | .sendSAtrRequest => decide (x.ftype = .s) && decide (x.s.subtype = .named .atrReq)
  | .sendLockAcquire => decide (x.ftype = .lock)

/-- `frame_for(PSTATE)` (R163). `Idle` sends nothing (R167): the sequencer never asks for its frame. -/
def frameFor (s : State) : EncOut :=
  match s.pstate with
  | .idle => .raised
  | .sendIframe => encodeI s s.ntx
  | .sendRAck => encodeR s .ack .none s.ntx.r.seq
  | .sendRNack => encodeR s .nack s.ntx.r.err s.ntx.r.seq
  | .sendSResync => encodeS s (.named .resynchReq) []
  | .sendSIntfReset => encodeS s (.named .intfResetReq) []
  | .sendSIfsAdjust => encodeS s (.named .ifsReq) s.ntx.s.payload
  | .sendSEndOfSession => encodeS s (.named .endOfSessionReq) s.ntx.s.payload
  | .sendSWtxResponse => encodeS s (.named .wtxRsp) s.ntx.s.payload
  | .sendSHardReset => encodeS s (.named .hardResetReq) []
  | .sendSAtrRequest => encodeS s (.named .atrReq) []
  | .sendLockAcquire => encodeL s s.ntx

/-- The adapter's answer to the next `ChSend` (R45, R48). -/
def nextSend (s : State) : SendAnswer :=
  match s.sendScript with
  | a :: _ => a
  | [] => Config.freeSend s.tick

/-- The adapter's answer to the next `ChRecv` (R46, R48). -/
def nextRecv (s : State) : RecvAnswer :=
  match s.recvScript with
  | a :: _ => a
  | [] => Config.freeRecv s.tick

/-- `ChSend(F)` (R45): the adapter answers once; the call is recorded. -/
def chSend (F : Bytes) (s : State) : State :=
  note (.sent F (nextSend s))
    { s with sendScript := s.sendScript.tail
             tick := (match s.sendScript with | [] => s.tick + 1 | _ :: _ => s.tick) }

/-- `ChRecv(RECV_TIMEOUT)` (R46): the adapter answers once and the frame is consumed; the call is recorded. -/
def chRecv (s : State) : State :=
  note (.received s.cfg.recvTimeout (nextRecv s))
    { s with recvScript := s.recvScript.tail
             tick := (match s.recvScript with | [] => s.tick + 1 | _ :: _ => s.tick) }

/-- A transmission failure (R162). -/
def sendFailed (s : State) : State := endExchange .ioFailure (setCause .ioFailure s)

/-- What one exchange with the adapter comes to, before the receive dispatch or the retry policy. -/
inductive Exchange where
  /-- The step has no meaning here (R169), or the frame has no bytes (R42). -/
  | stuck (r : Result)
  /-- `ChSend` failed, and the exchange is over (R162). -/
  | failed (s : State)
  /-- No frame arrived, or it did not decode: `CAUSE` says why, and the retry policy follows (R160). -/
  | lost (s : State)
  /-- A frame decoded: the wire frame `i` is to be executed in `s` (R160). -/
  | got (i : Instr) (s : State)

/-- The receive half of an exchange (R160): one `ChRecv`, and `decode` of the bytes it gives. -/
def receiveFrame (s : State) : Exchange :=
  match nextRecv s with
  | .timeout => .lost (setCause .timeout (chRecv s))
  | .ioError => .lost (setCause .ioFailure (chRecv s))
  | .bytes G =>
    match decodeInstr s.cfg s.variant s.epsel G with
    | .error e => .lost (setCause (causeOf e) { chRecv s with rxf := G })
    | .ok i => .got i { chRecv s with rxf := G }

/-- One exchange of a sending state (R160): the frame of `PSTATE` into `TXF` and to `ChSend`; on success
`LTX <- NTX` (R13) and one `ChRecv`. -/
def exchange (s : State) : Exchange :=
  if sendStateAgrees s.pstate s.ntx = false then .stuck (.refused .sendStateMismatch)
  else
    match frameFor s with
    | .raised => .stuck (.refused .encoderRaised)
    | .noValue => .stuck (.fault .memReadOutside)
    | .frame F =>
      match nextSend s with
      | .ioError => .failed (sendFailed { chSend F s with txf := F })
      | .ok => receiveFrame { chSend F s with txf := F, ltx := s.ntx }

/-- The receive dispatch of a wire frame (R180); the decoder gives no other instruction. -/
def dispatchWire (i : Instr) (s : State) : Result :=
  match i.toFrame with
  | some f => dispatch f s
  | none => .next s

/-- `step()` (R160): nothing in `Idle` (R167). -/
def seqStep (s : State) : Result :=
  if s.pstate = .idle then .next s
  else
    match exchange s with
    | .stuck r => r
    | .failed t => .next t
    | .lost t => .next (retryPolicy t)
    | .got i t => dispatchWire i t

/-- The row `step`. -/
def execStep (s : State) : Result := seqStep s

/-- What follows a `run` that is called now: what already follows the one in progress, or nothing. -/
def contOf : Ctl → Cont
  | .atRest => .bare
  | .running k => k

/-- The row `run` (R161): the loop begins; each further transition of the machine makes one `step` until
`PSTATE = Idle`, and then `STATUS` is returned (log entry 9). -/
def execRun (s : State) : Result := .next (beginRun (contOf s.ctl) s)

end Machine
end Sys2Proof
end

