-- ==== Sys2Proof/Machine/Dispatch.lean ====
section
/-! DEFINITION. `exec`: one arm per row of spec/opcode_table.json. -/

namespace Sys2Proof
namespace Machine

/-- The meaning of every instruction. -/
def exec (i : Instr) (s : State) : Host.Outcome State Fault Refusal :=
  match i with
  | .iShort q m p => Sys2Proof.Machine.execIShort q m p s
  | .iExt q m p => Sys2Proof.Machine.execIExt q m p s
  | .lock q => Sys2Proof.Machine.execLock q s
  | .rAck q => Sys2Proof.Machine.execRAck q s
  | .rNackParity q => Sys2Proof.Machine.execRNackParity q s
  | .rNackOther q => Sys2Proof.Machine.execRNackOther q s
  | .rNackMissing q => Sys2Proof.Machine.execRNackMissing q s
  | .rUndefBit5 q => Sys2Proof.Machine.execRUndefBit5 q s
  | .rUndefBit3 q => Sys2Proof.Machine.execRUndefBit3 q s
  | .rUndefBit2 q => Sys2Proof.Machine.execRUndefBit2 q s
  | .sResynchReq p => Sys2Proof.Machine.execSResynchReq p s
  | .sResynchRsp p => Sys2Proof.Machine.execSResynchRsp p s
  | .sIfsReq p => Sys2Proof.Machine.execSIfsReq p s
  | .sIfsRsp p => Sys2Proof.Machine.execSIfsRsp p s
  | .sAbortReq p => Sys2Proof.Machine.execSAbortReq p s
  | .sAbortRsp p => Sys2Proof.Machine.execSAbortRsp p s
  | .sWtxReq p => Sys2Proof.Machine.execSWtxReq p s
  | .sWtxRsp p => Sys2Proof.Machine.execSWtxRsp p s
  | .sEndOfSessionReq p => Sys2Proof.Machine.execSEndOfSessionReq p s
  | .sEndOfSessionRsp p => Sys2Proof.Machine.execSEndOfSessionRsp p s
  | .sHardResetReq p => Sys2Proof.Machine.execSHardResetReq p s
  | .sHardResetRsp p => Sys2Proof.Machine.execSHardResetRsp p s
  | .sAtrReq p => Sys2Proof.Machine.execSAtrReq p s
  | .sAtrRsp p => Sys2Proof.Machine.execSAtrRsp p s
  | .sIntfResetReq p => Sys2Proof.Machine.execSIntfResetReq p s
  | .sIntfResetRsp p => Sys2Proof.Machine.execSIntfResetRsp p s
  | .sUnknown c p => Sys2Proof.Machine.execSUnknown c p s
  | .openSession m => Sys2Proof.Machine.execOpen m s
  | .transceive cmd => Sys2Proof.Machine.execTransceive cmd s
  | .acquireLock b => Sys2Proof.Machine.execAcquireLock b s
  | .release => Sys2Proof.Machine.execRelease s
  | .reset => Sys2Proof.Machine.execReset s
  | .close => Sys2Proof.Machine.execClose s
  | .closeAllSessions => Sys2Proof.Machine.execCloseAllSessions s
  | .setIfs n => Sys2Proof.Machine.execSetIfs n s
  | .getIfs => Sys2Proof.Machine.execGetIfs s
  | .getAtr => Sys2Proof.Machine.execGetAtr s
  | .setEndpoint e => Sys2Proof.Machine.execSetEndpoint e s
  | .resetEndpoint => Sys2Proof.Machine.execResetEndpoint s
  | .computeLrc b a n => Sys2Proof.Machine.execComputeLrc b a n s
  | .checkLrc b => Sys2Proof.Machine.execCheckLrc b s
  | .encodeIframe x => Sys2Proof.Machine.execEncodeIframe x s
  | .encodeRframe k e q => Sys2Proof.Machine.execEncodeRframe k e q s
  | .encodeSframe t p => Sys2Proof.Machine.execEncodeSframe t p s
  | .encodeLock x => Sys2Proof.Machine.execEncodeLock x s
  | .decode b => Sys2Proof.Machine.execDecode b s
  | .seedIframe b n => Sys2Proof.Machine.execSeedIframe b n s
  | .nextIframeCtx => Sys2Proof.Machine.execNextIframeCtx s
  | .seedLock => Sys2Proof.Machine.execSeedLock s
  | .seedSframe t p => Sys2Proof.Machine.execSeedSframe t p s
  | .seedRframe k e => Sys2Proof.Machine.execSeedRframe k e s
  | .step => Sys2Proof.Machine.execStep s
  | .run => Sys2Proof.Machine.execRun s
  | .dispatch f => Sys2Proof.Machine.execDispatch f s
  | .retryPolicy => Sys2Proof.Machine.execRetryPolicy s
  | .guarded a => Sys2Proof.Machine.execGuarded a s
  | .retransmit => Sys2Proof.Machine.execRetransmit s
  | .recoveryProcedure => Sys2Proof.Machine.execRecoveryProcedure s
  | .giveUp => Sys2Proof.Machine.execGiveUp s
  | .resetParams => Sys2Proof.Machine.execResetParams s
  | .powerOnReset => Sys2Proof.Machine.execPowerOnReset s

end Machine
end Sys2Proof
end

