-- ==== Sys2Proof/Machine/Fetch.lean ====
section
/-! DEFINITION. Where the machine's next instruction comes from: the host calls it, or the sequencer receives it
as a frame (R160, R200). -/

namespace Sys2Proof
namespace Machine

/-- What a transition does before it runs an instruction: it finds the instruction and the state it runs in, or
the transition holds no instruction. -/
inductive Fetched where
  | instr (i : Instr) (s : State)
  | settled (r : Result)

/-- The command buffer of the `transceive` in progress, from its call to its return (R281): the block may have let
go of it (R242), and the host still keeps it unchanged. -/
def operationBuffer : Ctl → Option BufRef
  | .running (.transceive b) => some b
  | .running _ => none
  | .atRest => none

/-- Whether address `a` lies in the command buffer of the `transceive` in progress, or in one a context still
refers to (R51, R281). -/
def inUse (a : Nat) (s : State) : Bool :=
  covers (operationBuffer s.ctl) a || covers s.ntx.i.buf a || covers s.ltx.i.buf a

/-- The host stores a byte in its memory; a change of the command buffer while an operation is in progress has no
meaning (R51, R281, U7; log entry 12). -/
def hostStore (a : Nat) (v : Byte) (s : State) : Result :=
  if s.top ≠ .idle ∧ inUse a s = true ∧ Memory.read s.mem a ≠ v then
    .refused .bufferChangedInUse
  else .next { s with mem := Memory.write s.mem a v }

/-- The block's own next transition (R160, R161, R200): nothing at rest; inside a `run`, one exchange of the
sequencer, whose frame is the instruction, or, once `PSTATE = Idle`, what the operation does after its `run`. -/
def advanceRun (s : State) : Fetched :=
  match s.ctl with
  | .atRest => .settled (.next s)
  | .running k =>
    if s.pstate = .idle then .settled (.next (finishOp k s))
    else
      match exchange s with
      | .stuck r => .settled r
      | .failed t => .settled (.next t)
      | .lost t => .settled (.next (retryPolicy t))
      | .got i t => .instr i t

/-- The next instruction: what the host does first (R200: a call that arrives between two transitions), then the
sequencer. -/
def fetch (s : State) : Fetched :=
  match s.hostIn with
  | [] => advanceRun s
  | .quiet :: rest => advanceRun { s with hostIn := rest }
  | .store a v :: rest => .settled (hostStore a v { s with hostIn := rest })
  | .call i :: rest =>
    if i.hostCallable then .instr i { s with hostIn := rest } else .settled (.refused .notHostCallable)

/-- The state in which the very next transition receives the frame of a table word (log entry 11): a `run` is in
progress and is about to send a resync request, the adapter takes the frame and answers with the table frame, and
the host is quiet. A word of the row `I.EXT` needs the extended variant (R124). -/
def placeWord (s : State) (nbits w : Nat) : State :=
  { loadSframe .resynchReq [] .sendSResync s with
    ctl := .running (contOf s.ctl)
    variant := if tableWordIsExt (w % 2 ^ nbits) then .extended else s.variant
    sendScript := .ok :: s.sendScript
    recvScript := .bytes (tableFrame s.cfg s.epsel nbits w) :: s.recvScript
    hostIn := .quiet :: s.hostIn }

end Machine
end Sys2Proof
end

