-- ==== Sys2Proof/Machine/Step.lean ====
section
/-! DEFINITION. One transition of the machine. -/

namespace Sys2Proof
namespace Machine

/-- One transition: find the next instruction and run it, or make the transition that holds none. -/
def step (s : State) : Host.Outcome State Fault Refusal :=
  match fetch s with
  | .instr i t => exec i t
  | .settled r => r

/-- The state in which the very next `step` runs the instruction of a table word (`placeWord`). -/
def State.withFetchWord (s : State) (nbits w : Nat) : State := placeWord s nbits w

end Machine
end Sys2Proof
end

