-- ==== Sys2Proof/WellFormed.lean ====
section
/-! DEFINITION. Well-formed configurations and well-formed instructions. -/

namespace Sys2Proof

/-- What R5, R67 to R72 and decisions D3 to D5 ask of a configuration: the two I-frame bits lie in 0..6 and
differ, the R-frame's sequence bit is the one PCB bit that is neither a class bit, a reserved bit nor a code
bit (R68), the response bit is one of the six code bits, the four R-frame codes differ, the sixteen subtype
codes differ (R72), `IFS_DEFAULT` is in 1..254, the initial maximum admits it (R20), and the WTX limit is at
least 1. -/
abbrev Cfg.wf (c : Cfg) : Prop :=
  (c.iSeqBit.val < 7 ∧ c.iChainBit.val < 7 ∧ c.iSeqBit ≠ c.iChainBit) ∧
  c.rSeqBit.val = 4 ∧ c.sRspBit.val < 6 ∧
  [c.rErrNone, c.rErrParity, c.rErrOther, c.rErrMissing].Nodup ∧
  (SName.all.map c.sCode6).Nodup ∧
  1 ≤ c.ifsDefault ∧ c.ifsDefault ≤ Config.shortLenMax ∧ c.ifsDefault ≤ c.ifsMaxInit ∧
  1 ≤ c.wtxCounterLimit

/-- The fields of a decoded frame agree (R11, R120, R127): the kind of an R-frame is ACK exactly when its class
is none, and an S-frame warns exactly when its subtype is unknown; `Invalid` is decoded from no frame. -/
def Frame.wf : Frame → Bool
  | .i _ _ _ => true
  | .r _ kind err => decide ((kind = .ack) ↔ (err = .none))
  | .s (.named n) p atr w => decide (w = .none) && decide (atr = atrOf n p)
  | .s (.unknown _) _ atr w => decide (w = .unknownSubtype) && decide (atr = none)
  | .s .invalid _ _ _ => false

/-- Well-formed instructions: a payload the length field can carry (R62, R63, R65), an unknown code that no
subtype has (R76), operands inside the domain the rule names (R11, R90, R93, R140, R147, R180). -/
def Instr.wf (c : Cfg) : Instr → Bool
  | .iShort _ _ p => decide (p.length ≤ Config.shortLenMax)
  | .iExt _ _ p => decide (p.length ≤ Config.extLenMax)
  | .sUnknown code p => decide (p.length ≤ Config.shortLenMax) && decide (c.subtypeOf code = none)
  | .sResynchReq p | .sResynchRsp p | .sIfsReq p | .sIfsRsp p | .sAbortReq p | .sAbortRsp p
  | .sWtxReq p | .sWtxRsp p | .sEndOfSessionReq p | .sEndOfSessionRsp p | .sHardResetReq p
  | .sHardResetRsp p | .sAtrReq p | .sAtrRsp p | .sIntfResetReq p | .sIntfResetRsp p =>
    decide (p.length ≤ Config.shortLenMax)
  | .computeLrc buf _ stop => decide (stop ≤ buf.length)
  | .checkLrc F => decide (2 ≤ F.length)
  | .seedIframe (some b) n => decide (n = b.len)
  | .seedIframe none _ => true
  | .seedSframe _ p => decide (p.length ≤ Config.shortLenMax)
  | .seedRframe kind err => decide ((kind = .ack) ↔ (err = .none)) && decide (err ≠ .undefined)
  | .dispatch f => f.wf
  | .lock _ | .rAck _ | .rNackParity _ | .rNackOther _ | .rNackMissing _ | .rUndefBit5 _
  | .rUndefBit3 _ | .rUndefBit2 _ | .openSession _ | .transceive _ | .acquireLock _ | .release
  | .reset | .close | .closeAllSessions | .setIfs _ | .getIfs | .getAtr | .setEndpoint _
  | .resetEndpoint | .encodeIframe _ | .encodeRframe _ _ _ | .encodeSframe _ _ | .encodeLock _
  | .decode _ | .nextIframeCtx | .seedLock | .step | .run | .retryPolicy
  | .guarded _ | .retransmit | .recoveryProcedure | .giveUp | .resetParams | .powerOnReset => true

end Sys2Proof
end

