-- ==== Sys2Proof/Safety.lean ====
section
/-! DEFINITION. What a safe state is, in the terms the statements use, and the notions several statements share. -/

namespace Sys2Proof
namespace Machine

/-- R150 (a) to (d) of an I sub-record, while a command buffer is pending. -/
def tracks (x : IRec) : Prop :=
  ∀ b, x.buf = some b →
    x.offset + x.remaining = b.len ∧ b.len < Config.lenLimit ∧
    1 ≤ x.fragLen ∧ x.fragLen ≤ x.remaining ∧ x.fragLen ≤ x.maxLen ∧
    x.maxLen ≤ Config.extLenMax ∧
    (x.chained = true ↔ x.maxLen < x.remaining) ∧ (x.chained = true ↔ x.fragLen < x.remaining)

/-- The session variables the rules keep: the fragment bound is at least 1 (R20) and at most 65535, what an IFS
response or the ATR step of `open` can write (R190, R201; that R20's `ifs_max` is not kept is log entry 32); the
R-NACK and recovery counters keep their bounds (R253; the WTX counter is log entry 18); and the read-only registers hold the configuration's values (R20, R21). -/
def svOk (c : Cfg) (v : SessionVars) : Prop :=
  1 ≤ v.ifsCurrent ∧ v.ifsCurrent ≤ Config.extLenMax ∧
  v.rnackRetryCounter ≤ v.rnackRetryLimit ∧ v.recoveryCounter ≤ c.frameRetryCount + 1 ∧
  v.rnackRetryLimit = c.rnackRetryLimit ∧ v.wtxCounterLimit = c.wtxCounterLimit ∧
  v.ifsDefault = c.ifsDefault

/-- The R sub-record is consistent: ACK exactly with the class none (R11), and never the undefined-error class,
which is never sent (R105). -/
def rrecOk (x : RRec) : Prop := ((x.kind = .ack) ↔ (x.err = .none)) ∧ x.err ≠ .undefined

/-- What holds of a transmit context at every moment: a consistent R sub-record and an S payload that a length
byte can carry (R11). -/
def txOk (x : TxCtx) : Prop := rrecOk x.r ∧ x.s.payload.length ≤ Config.shortLenMax

/-- A snapshot is the state of an idle block (R25, R216, R260). -/
def snapOk (c : Cfg) (x : Snapshot) : Prop :=
  x.pstate = .idle ∧ x.top = .idle ∧ svOk c x.sv ∧ txOk x.ntx ∧ txOk x.ltx ∧
  x.ntx.i.buf = none ∧ x.ltx.i.buf = none

/-- The invariant of the machine: the configuration and the memory are well-formed; the session variables are
legal; the transmit contexts are consistent, agree with `PSTATE` (R169) and track the pending command (R150);
`TOP`, `PSTATE` and the operation in progress agree (R200, R260); a command buffer is pending only inside
`transceive` (R203); the snapshots are those of an idle block. -/
structure State.Inv (s : State) : Prop where
  cfg : s.cfg.wf
  mem : Memory.wf s.mem = true
  sv : svOk s.cfg s.sv
  ntxOk : txOk s.ntx
  ltxOk : txOk s.ltx
  agrees : sendStateAgrees s.pstate s.ntx = true
  sendsCommand : s.pstate = .sendIframe → s.ntx.i.buf.isSome = true
  ntxTracks : s.pstate ≠ .idle → tracks s.ntx.i
  ltxTracks : tracks s.ltx.i
  atRest : s.top = .idle ↔ s.ctl = .atRest
  idle : s.top = .idle → s.pstate = .idle
  notBare : s.ctl ≠ .running .bare
  released : ∀ b, (s.ntx.i.buf = some b ∨ s.ltx.i.buf = some b) → s.ctl = .running (.transceive b)
  snapEse : snapOk s.cfg s.epEse
  snapEuicc : snapOk s.cfg s.epEuicc

/-- The I sub-records of the fragments of a command, from its first one on: `next_iframe_ctx` until a fragment is
not chained (R142, R150). `n` bounds how many are listed. -/
def fragments : Nat → IRec → List IRec
  | 0, _ => []
  | n + 1, x => if x.chained then x :: fragments n (nextFragment x) else [x]

/-- The payload bytes a fragment carries. -/
def fragmentBytes (m : Memory) (b : BufRef) (x : IRec) : Bytes := Memory.slice m (b.base + x.offset) x.fragLen

/-- The encode operation whose frame a state sends, with its operands (the column `frame_for` of R163). -/
def sendingOp (s : State) : Option Instr :=
  match s.pstate with
  | .idle => none
  | .sendIframe => some (.encodeIframe s.ntx)
  | .sendRAck => some (.encodeRframe .ack .none s.ntx.r.seq)
  | .sendRNack => some (.encodeRframe .nack s.ntx.r.err s.ntx.r.seq)
  | .sendSResync => some (.encodeSframe (.named .resynchReq) [])
  | .sendSIntfReset => some (.encodeSframe (.named .intfResetReq) [])
  | .sendSIfsAdjust => some (.encodeSframe (.named .ifsReq) s.ntx.s.payload)
  | .sendSEndOfSession => some (.encodeSframe (.named .endOfSessionReq) s.ntx.s.payload)
  | .sendSWtxResponse => some (.encodeSframe (.named .wtxRsp) s.ntx.s.payload)
  | .sendSHardReset => some (.encodeSframe (.named .hardResetReq) [])
  | .sendSAtrRequest => some (.encodeSframe (.named .atrReq) [])
  | .sendLockAcquire => some (.encodeLock s.ntx)

end Machine
end Sys2Proof
end

