-- ==== Sys2Proof/Certificates/Slice0/Obligations.lean ====
section
/-! DEFINITION. The statements of this model, for the provers. A statement that gives the next state of an
instruction as a record update of the old one is at once its result, its frame (every field the update does not
name, and so every register, flag and byte of memory, is unchanged) and its completion. -/

section

open Sys2Proof Sys2Proof.Machine

/-! ## The LRC unit and the codec operations -/

/-- R91: `compute_lrc` covers `offset .. end - 1`, and writes nothing. -/
def Obligations.ComputeLrcFoldsRange : Prop :=
  ∀ (s : State) (buf : Bytes) (offset stop : Nat), stop ≤ buf.length →
    exec (.computeLrc buf offset stop) s =
      .next { s with ret := .byte (((buf.take stop).drop offset).foldl (fun x y => x ^^^ y) 0x00#8) }

/-- R93: `check_lrc` compares the last byte with the XOR of the bytes before it, from `LRC_DEC_FROM` on. -/
def Obligations.CheckLrcComparesLastByte : Prop :=
  ∀ (s : State) (body : Bytes) (last : Byte), 1 ≤ body.length →
    exec (.checkLrc (body ++ [last])) s =
      .next { s with
        ret := .bool (decide (last = (body.drop s.cfg.lrcDecFrom.val).foldl (fun x y => x ^^^ y) 0x00#8)) }

/-- R100, R104: the short form up to 254 bytes, the extended form above; `InvalidParameter`, with some contents left
in `TXF`, for a null buffer, no byte, or a length no layout carries. -/
def Obligations.EncodeIframeLayout : Prop :=
  ∀ (s : State) (x : TxCtx),
    (∀ b : BufRef, x.i.buf = some b → 1 ≤ x.i.fragLen → x.i.offset + x.i.fragLen ≤ b.len →
      (x.i.fragLen ≤ 254 ∨ (s.variant = .extended ∧ x.i.fragLen ≤ 65535)) →
      let head : Bytes := [s.cfg.addrTx s.epsel, bitAt s.cfg.iSeqBit x.i.seq ||| bitAt s.cfg.iChainBit x.i.chained]
      let len : Bytes := if x.i.fragLen ≤ 254 then [byteOf x.i.fragLen] else 0xFF#8 :: be16 x.i.fragLen
      let body := head ++ len ++ Memory.slice s.mem (b.base + x.i.offset) x.i.fragLen
      let F := body ++ [lrc body s.cfg.lrcEncFrom.val body.length]
      exec (.encodeIframe x) s = .next { s with txf := F, ret := .frameBytes F }) ∧
    ((x.i.buf = none ∨ x.i.fragLen = 0 ∨ (254 < x.i.fragLen ∧ s.variant = .legacy) ∨ 65535 < x.i.fragLen) →
      ∃ G n, exec (.encodeIframe x) s = .next { s with txf := G, tick := n, ret := .err .invalidParameter })

/-- R102: the frame of a consistent pair, and `InvalidParameter` for every other. -/
def Obligations.EncodeRframeLayout : Prop :=
  ∀ (s : State) (kind : AckKind) (err : ErrClass) (seq : Bit),
    (∀ code, s.cfg.rErrCode err = some code → (kind = .ack ↔ err = .none) →
      let head : Bytes := [s.cfg.addrTx s.epsel, 0x80#8 ||| bitAt s.cfg.rSeqBit seq ||| code.setWidth 8, 0x00#8]
      let F := head ++ [lrc head s.cfg.lrcEncFrom.val 3]
      exec (.encodeRframe kind err seq) s = .next { s with txf := F, ret := .frameBytes F }) ∧
    ((¬ (kind = .ack ↔ err = .none) ∨ err = .undefined) →
      ∃ G n, exec (.encodeRframe kind err seq) s =
        .next { s with txf := G, tick := n, ret := .err .invalidParameter })

/-- R103: the frame of a named subtype with at most 254 payload bytes, and `InvalidParameter` for every other. -/
def Obligations.EncodeSframeLayout : Prop :=
  ∀ (s : State) (sub : SSub) (payload : Bytes),
    (∀ n : SName, sub = .named n → payload.length ≤ 254 →
      let body : Bytes := [s.cfg.addrTx s.epsel,
        0xC0#8 ||| bitAt s.cfg.sRspBit n.isRsp ||| (s.cfg.sCode n.stype).setWidth 8, byteOf payload.length] ++ payload
      let F := body ++ [lrc body s.cfg.lrcEncFrom.val body.length]
      exec (.encodeSframe sub payload) s = .next { s with txf := F, ret := .frameBytes F }) ∧
    ((sub = .invalid ∨ (∃ c, sub = .unknown c) ∨ 254 < payload.length) →
      ∃ G n, exec (.encodeSframe sub payload) s =
        .next { s with txf := G, tick := n, ret := .err .invalidParameter })

/-- R108: the four bytes of the lock frame, whatever the rest of the context holds. -/
def Obligations.EncodeLockLayout : Prop :=
  ∀ (s : State) (x : TxCtx),
    let head : Bytes := [s.cfg.addrTx s.epsel, bitAt s.cfg.iSeqBit x.i.seq, 0x00#8]
    let F := head ++ [lrc head s.cfg.lrcEncFrom.val 3]
    exec (.encodeLock x) s = .next { s with txf := F, ret := .frameBytes F }

/-- R121: `decode` answers on any bytes and writes nothing; the order of its first three tests. -/
def Obligations.DecodeTestsInOrder : Prop :=
  ∀ (s : State) (F : Bytes),
    let r := decodeFrame s.cfg s.variant s.epsel F
    exec (.decode F) s = .next { s with ret := .decoded r } ∧
    (F.length < 4 → r = .error .malformed) ∧
    (4 ≤ F.length → checkLrc s.cfg F = false → r = .error .checksumMismatch) ∧
    (4 ≤ F.length → checkLrc s.cfg F = true → s.cfg.rxAddrCheck = true →
      F.head? ≠ some (s.cfg.addrRx s.epsel) → r = .error .malformed)

/-- R124: the length field and the fields of an I-frame that passed the tests before it. -/
def Obligations.DecodeIframeFields : Prop :=
  ∀ (c : Cfg) (v : Variant) (ep : Endpoint) (addr pcb len : Byte) (rest : Bytes),
    rest ≠ [] → checkLrc c (addr :: pcb :: len :: rest) = true → (c.rxAddrCheck = true → addr = c.addrRx ep) →
    bitOf pcb 7 = false →
    let r := decodeFrame c v ep (addr :: pcb :: len :: rest)
    (len ≠ 0xFF#8 → rest.length = len.toNat + 1 →
      r = .frame (.i (bitOf pcb c.iSeqBit) (bitOf pcb c.iChainBit) (rest.take len.toNat))) ∧
    (len ≠ 0xFF#8 → rest.length ≠ len.toNat + 1 → r = .error .malformed) ∧
    (len = 0xFF#8 → v = .legacy → r = .error .malformed) ∧
    (len = 0xFF#8 → v = .extended → rest.length < 3 → r = .error .malformed) ∧
    (len = 0xFF#8 → v = .extended → ∀ hi lo body, rest = hi :: lo :: body →
      (body.length = 256 * hi.toNat + lo.toNat + 1 →
        r = .frame (.i (bitOf pcb c.iSeqBit) (bitOf pcb c.iChainBit) (body.take (256 * hi.toNat + lo.toNat)))) ∧
      (body.length ≠ 256 * hi.toNat + lo.toNat + 1 → r = .error .malformed))

/-- R126: the class and the bit of an R-frame that passed the tests before it. -/
def Obligations.DecodeRframeFields : Prop :=
  ∀ (c : Cfg) (v : Variant) (ep : Endpoint) (addr pcb len : Byte) (rest : Bytes),
    [c.rErrNone, c.rErrParity, c.rErrOther, c.rErrMissing].Nodup →
    rest ≠ [] → checkLrc c (addr :: pcb :: len :: rest) = true → (c.rxAddrCheck = true → addr = c.addrRx ep) →
    bitOf pcb 7 = true → bitOf pcb 6 = false →
    let r := decodeFrame c v ep (addr :: pcb :: len :: rest)
    let n := bitOf pcb c.rSeqBit
    let reserved := bitOf pcb 5 || bitOf pcb 3 || bitOf pcb 2
    ((len ≠ 0x00#8 ∨ rest.length ≠ 1) → r = .error .malformed) ∧
    (len = 0x00#8 → rest.length = 1 → reserved = true → r = .frame (.r n .nack .undefined)) ∧
    (len = 0x00#8 → rest.length = 1 → reserved = false →
      ∀ e code, c.rErrCode e = some code → pcb.extractLsb' 0 2 = code →
        r = .frame (.r n (if e = .none then .ack else .nack) e))

/-- R127: the subtype, the payload, the ATR fields and the warning of an S-frame that passed the tests before it. -/
def Obligations.DecodeSframeFields : Prop :=
  ∀ (c : Cfg) (v : Variant) (ep : Endpoint) (addr pcb len : Byte) (rest : Bytes),
    (SName.all.map c.sCode6).Nodup →
    rest ≠ [] → checkLrc c (addr :: pcb :: len :: rest) = true → (c.rxAddrCheck = true → addr = c.addrRx ep) →
    bitOf pcb 7 = true → bitOf pcb 6 = true →
    let r := decodeFrame c v ep (addr :: pcb :: len :: rest)
    let payload := rest.take len.toNat
    ((len = 0xFF#8 ∨ rest.length ≠ len.toNat + 1) → r = .error .malformed) ∧
    (len ≠ 0xFF#8 → rest.length = len.toNat + 1 →
      (∀ n : SName, c.sCode6 n = pcb.extractLsb' 0 6 →
        r = .frame (.s (.named n) payload
          (if (n = .atrRsp ∨ n = .intfResetRsp) ∧ payload ≠ [] then some (Config.parseAtr payload) else none)
          .none)) ∧
      ((∀ n : SName, c.sCode6 n ≠ pcb.extractLsb' 0 6) →
        r = .frame (.s (.unknown (pcb.extractLsb' 0 6)) payload none .unknownSubtype)))

/-! ## Preparing a context -/

/-- R140, both branches of the bound and the raise. R140's operand `n` is `|buf|`; that the operation runs on any other
`n` as well is the model's choice (log entry 27). -/
def Obligations.SeedIframeFirstFragment : Prop :=
  ∀ (s : State) (buf : Option BufRef) (n : Nat),
    ((buf = none ∨ n = 0 ∨ 2 ^ 32 ≤ n) →
      exec (.seedIframe buf n) s = .next { s with ret := .err .invalidParameter }) ∧
    (buf ≠ none → 1 ≤ n → n < 2 ^ 32 →
      exec (.seedIframe buf n) s = .next { s with
        rlist := []
        ntx := { s.ntx with
          ftype := .i
          i := { buf := buf, offset := 0, remaining := n, maxLen := s.sv.ifsCurrent,
                 chained := decide (n > s.sv.ifsCurrent),
                 fragLen := if n > s.sv.ifsCurrent then s.sv.ifsCurrent else n,
                 seq := !s.ntx.i.seq } }
        pstate := .sendIframe })

/-- R142, in the states its precondition and the width rule R152 admit. -/
def Obligations.NextIframeCtxAdvances : Prop :=
  ∀ (s : State), s.ntx.i.chained = true → s.ntx.i.fragLen ≤ s.ntx.i.remaining →
    exec .nextIframeCtx s = .next { s with
      ntx := { s.ntx with
        ftype := .i
        i := { s.ntx.i with
          offset := s.ntx.i.offset + s.ntx.i.fragLen
          remaining := s.ntx.i.remaining - s.ntx.i.fragLen
          chained := decide (s.ntx.i.remaining - s.ntx.i.fragLen > s.ntx.i.maxLen)
          fragLen := if s.ntx.i.remaining - s.ntx.i.fragLen > s.ntx.i.maxLen then s.ntx.i.maxLen
                     else s.ntx.i.remaining - s.ntx.i.fragLen
          seq := !s.ntx.i.seq } } }

/-- R141. -/
def Obligations.SeedLockContext : Prop :=
  ∀ (s : State), exec .seedLock s = .next { s with
    rlist := []
    ntx := { s.ntx with
      ftype := .lock
      i := { buf := none, offset := 0, remaining := 0, fragLen := 0, maxLen := s.ntx.i.maxLen,
             seq := !s.ntx.i.seq, chained := false } }
    pstate := .sendLockAcquire }

/-- R146: the seven subtypes a state sends, and the raise for every other. That a payload of more than 254 bytes is
stored too is the model's choice (R11; log entry 27). -/
def Obligations.SeedSframeContext : Prop :=
  ∀ (s : State) (payload : Bytes),
    (∀ n ps, (n, ps) ∈ [(SName.resynchReq, PState.sendSResync), (.ifsReq, .sendSIfsAdjust),
        (.wtxRsp, .sendSWtxResponse), (.atrReq, .sendSAtrRequest), (.intfResetReq, .sendSIntfReset),
        (.endOfSessionReq, .sendSEndOfSession), (.hardResetReq, .sendSHardReset)] →
      exec (.seedSframe (.named n) payload) s = .next { s with
        ntx := { s.ntx with ftype := .s, s := { subtype := .named n, payload := payload } }
        pstate := ps }) ∧
    (∀ sub, (sub = .invalid ∨ (∃ c, sub = .unknown c) ∨
        sub ∈ [SName.resynchRsp, .ifsRsp, .abortReq, .abortRsp, .wtxReq, .endOfSessionRsp, .hardResetRsp,
          .atrRsp, .intfResetRsp].map SSub.named) →
      exec (.seedSframe sub payload) s = .next { s with ret := .err .invalidParameter })

/-- R147, R145: the bit of the I-frame expected next, and the state of the kind. R147 has the class none exactly when
the kind is ACK; that the operation stores any other pair as well is the model's choice (log entry 27). -/
def Obligations.SeedRframeContext : Prop :=
  ∀ (s : State) (kind : AckKind) (err : ErrClass), exec (.seedRframe kind err) s = .next { s with
    ntx := { s.ntx with ftype := .r, r := { kind := kind, err := err, seq := !s.rxc.iSeq } }
    pstate := if kind = .ack then .sendRAck else .sendRNack }

/-- R150 (a) to (e): the fragments of a command that `seed_iframe` and then `next_iframe_ctx` prepare track the
command, carry it whole and in order, are of the bound's size but the last, and are as many as R150 says. The
spec marks R150 as derived from R140 and R142. -/
def Obligations.FragmentsCarryTheCommand : Prop :=
  ∀ (s : State) (b : BufRef),
    1 ≤ b.len → b.len < 2 ^ 32 → 1 ≤ s.sv.ifsCurrent → s.sv.ifsCurrent ≤ 65535 →
    ∃ t, exec (.seedIframe (some b) b.len) s = .next t ∧
    let fs := fragments b.len t.ntx.i
    (∀ x ∈ fs, tracks x) ∧
    (fs.map (fragmentBytes s.mem b)).flatten = bufBytes s.mem b ∧
    (fs.map fun x => x.fragLen).sum = b.len ∧
    (∀ x ∈ fs.dropLast, x.fragLen = s.sv.ifsCurrent ∧ x.chained = true) ∧
    (∀ x ∈ fs.getLast?, x.chained = false) ∧
    fs.length = (b.len + s.sv.ifsCurrent - 1) / s.sv.ifsCurrent ∧
    (∀ k (h : k < fs.length), (fs[k]).seq = (if k % 2 = 0 then !s.ntx.i.seq else s.ntx.i.seq))

/-! ## Errors: entry, escalation, give-up -/

/-- R236, both branches. -/
def Obligations.RetryPolicyBranches : Prop :=
  ∀ (s : State),
    (s.sv.rnackRetryCounter < s.sv.rnackRetryLimit →
      exec .retryPolicy s = .next { s with
        ntx := { s.ntx with ftype := .r, r := { kind := .nack, err := .parity, seq := !s.rxc.iSeq } }
        sv := { s.sv with rnackRetryCounter := s.sv.rnackRetryCounter + 1 }
        pstate := .sendRNack }) ∧
    (s.sv.rnackRetryLimit ≤ s.sv.rnackRetryCounter →
      exec .retryPolicy s = .next { s with status := .recoveryExhausted, pstate := .idle })

/-- R237 to R239, both branches. Below the limit: the R-NACK of R238, the retransmission of R240, the replay of
R239, and one more on the counter. At the limit, whatever the action: the recovery procedure of R241. That the replay runs where
`LTX.ftype` is not `S`, outside R239's precondition, is the model's choice (log entry 30). -/
def Obligations.GuardBranches : Prop :=
  ∀ (s : State),
    (s.sv.recoveryCounter < s.cfg.frameRetryCount →
      exec (.guarded .nackOther) s = .next { s with
        ntx := { s.ntx with ftype := .r, r := { kind := .nack, err := .other, seq := !s.rxc.iSeq } }
        sv := { s.sv with recoveryCounter := s.sv.recoveryCounter + 1 }
        pstate := .sendRNack } ∧
      (∀ n ps, s.ltx.s.subtype = .named n →
        (n, ps) ∈ [(SName.resynchReq, PState.sendSResync), (.ifsReq, .sendSIfsAdjust),
          (.wtxRsp, .sendSWtxResponse), (.atrReq, .sendSAtrRequest), (.intfResetReq, .sendSIntfReset),
          (.endOfSessionReq, .sendSEndOfSession), (.hardResetReq, .sendSHardReset)] →
        exec (.guarded .replayS) s = .next { s with
          ntx := s.ltx
          sv := { s.sv with recoveryCounter := s.sv.recoveryCounter + 1 }
          pstate := ps }) ∧
      (∀ t, exec .retransmit s = .next t →
        exec (.guarded .retransmit) s = .next { t with
          sv := { s.sv with recoveryCounter := s.sv.recoveryCounter + 1 } })) ∧
    (∀ a : GuardedAction, s.cfg.frameRetryCount ≤ s.sv.recoveryCounter →
      (s.sv.recoveryCounter = s.cfg.frameRetryCount →
        exec (.guarded a) s = .next { s with
          ntx := { s.ntx with ftype := .s, s := { subtype := .named .intfResetReq, payload := [] } }
          sv := { s.sv with recoveryCounter := s.cfg.frameRetryCount + 1 }
          status := (match s.cfg.recoveryResetStatus with | .recoveryExhausted => .recoveryExhausted | .ok => .ok)
          pstate := .sendSIntfReset }) ∧
      (s.cfg.frameRetryCount < s.sv.recoveryCounter → exec (.guarded a) s = exec .giveUp s))

/-- R240: what goes out again, by the kind of the last frame sent and, after an R-frame, by the bit received. -/
def Obligations.RetransmitByLastSent : Prop :=
  ∀ (s : State),
    (s.ltx.ftype = .i → exec .retransmit s = .next { s with ntx := s.ltx, pstate := .sendIframe }) ∧
    (s.ltx.ftype = .lock → exec .retransmit s = .next { s with ntx := s.ltx, pstate := .sendLockAcquire }) ∧
    (s.ltx.ftype = .s → ∀ n ps, s.ltx.s.subtype = .named n →
      (n, ps) ∈ [(SName.resynchReq, PState.sendSResync), (.ifsReq, .sendSIfsAdjust),
        (.wtxRsp, .sendSWtxResponse), (.atrReq, .sendSAtrRequest), (.intfResetReq, .sendSIntfReset),
        (.endOfSessionReq, .sendSEndOfSession), (.hardResetReq, .sendSHardReset)] →
      exec .retransmit s = .next { s with ntx := s.ltx, pstate := ps }) ∧
    (s.ltx.ftype = .r →
      let pending := s.ltx.i.buf ≠ none ∧ 1 ≤ s.ltx.i.fragLen
      let resend := pending ∧ s.rxc.rSeq = s.ltx.i.seq ∧ s.ltx.r.kind = .nack
      let ackLost := s.rxc.rSeq ≠ s.ltx.i.seq ∧ s.ltx.r.kind = .ack
      (resend → exec .retransmit s = .next { s with ntx := { s.ltx with ftype := .i }, pstate := .sendIframe }) ∧
      (ackLost → exec .retransmit s = .next { s with ntx := s.ltx, pstate := .sendRAck }) ∧
      (¬ resend → ¬ ackLost → exec .retransmit s = .next { s with
        ntx := { s.ntx with ftype := .r, r := { kind := .nack, err := .other, seq := !s.rxc.iSeq } }
        pstate := .sendRNack })) ∧
    (s.ltx.ftype = .none → exec .retransmit s = .next { s with
      ntx := { s.ntx with ftype := .r, r := { kind := .nack, err := .other, seq := !s.rxc.iSeq } }
      pstate := .sendRNack })

/-- The three stops of operations that run outside the states the rules reach: `MemRead` past the end of the buffer
has no value (R42); `next_iframe_ctx` without its precondition (R142) or below zero (R152, log entry 13); the replay
of an S-frame whose subtype no state sends (R146, R239, log entry 14). -/
def Obligations.OperationsStopByName : Prop :=
  ∀ (s : State),
    (∀ (x : TxCtx) (b : BufRef), x.i.buf = some b → 1 ≤ x.i.fragLen → b.len < x.i.offset + x.i.fragLen →
      (x.i.fragLen ≤ 254 ∨ (s.variant = .extended ∧ x.i.fragLen ≤ 65535)) →
      exec (.encodeIframe x) s = .fault .memReadOutside) ∧
    (s.ntx.i.chained = false → exec .nextIframeCtx s = .refused .nothingChained) ∧
    (s.ntx.i.chained = true → s.ntx.i.remaining < s.ntx.i.fragLen →
      exec .nextIframeCtx s = .refused .lengthUnderflow) ∧
    (s.ltx.ftype = .s →
      (s.ltx.s.subtype = .invalid ∨ (∃ c, s.ltx.s.subtype = .unknown c) ∨
        s.ltx.s.subtype ∈ [SName.resynchRsp, .ifsRsp, .abortReq, .abortRsp, .wtxReq, .endOfSessionRsp,
          .hardResetRsp, .atrRsp, .intfResetRsp].map SSub.named) →
      exec .retransmit s = .refused .noStateForSubtype)

/-- R241 while attempts remain, and its other branch, R242. -/
def Obligations.RecoveryProcedureBranches : Prop :=
  ∀ (s : State),
    (s.sv.recoveryCounter ≤ s.cfg.frameRetryCount →
      exec .recoveryProcedure s = .next { s with
        ntx := { s.ntx with ftype := .s, s := { subtype := .named .intfResetReq, payload := [] } }
        sv := { s.sv with recoveryCounter := s.sv.recoveryCounter + 1 }
        status := (match s.cfg.recoveryResetStatus with | .recoveryExhausted => .recoveryExhausted | .ok => .ok)
        pstate := .sendSIntfReset }) ∧
    (s.cfg.frameRetryCount < s.sv.recoveryCounter → exec .recoveryProcedure s = exec .giveUp s)

/-- R242: a protocol reset that keeps the partial response and the cause, with the status said. -/
def Obligations.GiveUpKeepsResponseAndCause : Prop :=
  ∀ (s : State), ∃ t, exec .resetParams s = .next t ∧
    exec .giveUp s = .next { t with rlist := s.rlist, status := .recoveryExhausted, cause := s.cause }

/-! ## Reset -/

/-- R271, and what it leaves alone. -/
def Obligations.ResetParamsValues : Prop :=
  ∀ (s : State),
    let x : TxCtx := {
      ftype := .none
      i := { buf := none, offset := 0, remaining := 0, fragLen := 0, maxLen := s.cfg.ifsDefault, seq := true,
             chained := false }
      r := { kind := .ack, err := .none, seq := true }
      s := { subtype := .invalid, payload := [] } }
    exec .resetParams s = .next { s with
      pstate := .idle
      status := .ok
      cause := .none
      ntx := x
      ltx := x
      rxc := { ftype := .none, iSeq := true, iChained := false, rSeq := true, rErr := .none, sSubtype := .invalid }
      sv := { ifsDefault := s.cfg.ifsDefault, ifsMax := s.cfg.ifsMaxInit, ifsCurrent := s.cfg.ifsDefault,
              wtxCounter := 0, wtxCounterLimit := s.cfg.wtxCounterLimit, rnackRetryCounter := 0,
              rnackRetryLimit := s.cfg.rnackRetryLimit, recoveryCounter := 0, atr := none }
      rlist := [] }

/-- R270: what power-on reset writes after `reset_params`; the frame buffers take some contents, the counter of
free values moves, and an operation in progress may end (log entries 4 and 9). -/
def Obligations.PowerOnResetValues : Prop :=
  ∀ (s : State), ∃ t F G n k, exec .resetParams s = .next t ∧
    let p : Snapshot := {
      pstate := t.pstate, top := .idle, status := t.status, cause := t.cause, variant := .legacy, ntx := t.ntx,
      ltx := t.ltx, rxc := t.rxc, sv := t.sv, rlist := t.rlist }
    exec .powerOnReset s = .next { t with
      top := .idle, variant := .legacy, epsel := .ese, epEse := p, epEuicc := p,
      txf := F, rxf := G, tick := n, ctl := k }

/-- R270, R28: the machine right after reset, in the registers the spec gives a value. -/
def Obligations.ResetStateValues : Prop :=
  ∃ t, exec .powerOnReset State.reset = .next t ∧
    State.reset.top = .idle ∧ State.reset.variant = .legacy ∧ State.reset.epsel = .ese ∧
    (State.reset.pstate, State.reset.status, State.reset.cause, State.reset.ntx, State.reset.ltx,
      State.reset.rxc, State.reset.sv, State.reset.rlist, State.reset.epEse, State.reset.epEuicc) =
    (t.pstate, t.status, t.cause, t.ntx, t.ltx, t.rxc, t.sv, t.rlist, t.epEse, t.epEuicc)

/-! ## Receiving a frame

Each statement is about the instructions that carry the frame and about the operation `dispatch` on the same
frame. R180 clears the R-NACK counter at every frame and the WTX counter at every frame but a WTX request. -/

/-- R180 to R182, R250 to R252: a new I-frame; a chained one is acknowledged, the last one ends the exchange. The
lock frame received is an I-frame with an empty payload (log entry 10). -/
def Obligations.NewIframeIsAccepted : Prop :=
  ∀ (s : State) (q : Bit) (p : Bytes), q = !s.rxc.iSeq →
    let t : State := { s with
      rxc := { s.rxc with ftype := .i, iSeq := q, iChained := true }
      rlist := s.rlist ++ [p]
      sv := { s.sv with rnackRetryCounter := 0, wtxCounter := 0, recoveryCounter := 0 }
      ntx := { s.ntx with ftype := .r, r := { kind := .ack, err := .none, seq := !q } }
      pstate := .sendRAck }
    let u : State := { s with
      rxc := { s.rxc with ftype := .i, iSeq := q, iChained := false }
      rlist := s.rlist ++ [p]
      sv := { s.sv with rnackRetryCounter := 0, wtxCounter := 0, recoveryCounter := 0 }
      pstate := .idle }
    (exec (.iShort q true p) s = .next t ∧ exec (.iExt q true p) s = .next t ∧
      exec (.dispatch (.i q true p)) s = .next t) ∧
    (exec (.iShort q false p) s = .next u ∧ exec (.iExt q false p) s = .next u ∧
      exec (.dispatch (.i q false p)) s = .next u ∧ (p = [] → exec (.lock q) s = .next u))

/-- R181, R183, R237, R238: a duplicate I-frame is slept on and answered with an R-NACK while the guard allows. -/
def Obligations.DuplicateIframeIsRefusedOnTheWire : Prop :=
  ∀ (s : State) (q m : Bit) (p : Bytes), q = s.rxc.iSeq → s.sv.recoveryCounter < s.cfg.frameRetryCount →
    let t : State := { s with
      cause := .sequenceMismatch
      rxc := { s.rxc with ftype := .i }
      sv := { s.sv with
        rnackRetryCounter := 0, wtxCounter := 0, recoveryCounter := s.sv.recoveryCounter + 1 }
      trace := .slept s.cfg.recoveryDelay :: s.trace
      ntx := { s.ntx with ftype := .r, r := { kind := .nack, err := .other, seq := !s.rxc.iSeq } }
      pstate := .sendRNack }
    exec (.iShort q m p) s = .next t ∧ exec (.iExt q m p) s = .next t ∧
    exec (.dispatch (.i q m p)) s = .next t ∧ (m = false → p = [] → exec (.lock q) s = .next t)

/-- R184, R185: an ACK whose bit follows the chained fragment sent last clears the recovery counter and prepares
the next fragment. -/
def Obligations.AdvancingAckPreparesNextFragment : Prop :=
  ∀ (s : State) (n : Bit), s.ltx.i.buf ≠ none → s.ltx.i.chained = true → n = !s.ltx.i.seq →
    s.ntx.i = s.ltx.i → s.ntx.i.fragLen ≤ s.ntx.i.remaining →
    let rest := s.ntx.i.remaining - s.ntx.i.fragLen
    let t : State := { s with
      rxc := { s.rxc with ftype := .r, rSeq := n, rErr := .none }
      sv := { s.sv with rnackRetryCounter := 0, wtxCounter := 0, recoveryCounter := 0 }
      ntx := { s.ntx with
        ftype := .i
        i := { s.ntx.i with
          offset := s.ntx.i.offset + s.ntx.i.fragLen
          remaining := rest
          chained := decide (rest > s.ntx.i.maxLen)
          fragLen := if rest > s.ntx.i.maxLen then s.ntx.i.maxLen else rest
          seq := !s.ntx.i.seq } }
      pstate := .sendIframe }
    exec (.rAck n) s = .next t ∧ exec (.dispatch (.r n .ack .none)) s = .next t

/-- R184, R186, R237, R240: every R-frame but an advancing ACK records its bit and its class and, below the guard's
limit, sends again what the kind of the last frame sent says; the error class selects nothing. -/
def Obligations.OtherRframesRetransmit : Prop :=
  ∀ (s : State) (n : Bit) (i : Instr) (k : AckKind) (e : ErrClass),
    (i, k, e) ∈ [(Instr.rAck n, AckKind.ack, ErrClass.none), (.rNackParity n, .nack, .parity),
      (.rNackOther n, .nack, .other), (.rNackMissing n, .nack, .missing), (.rUndefBit5 n, .nack, .undefined),
      (.rUndefBit3 n, .nack, .undefined), (.rUndefBit2 n, .nack, .undefined)] →
    ¬ (k = .ack ∧ s.ltx.i.buf ≠ none ∧ s.ltx.i.chained = true ∧ n = !s.ltx.i.seq) →
    s.sv.recoveryCounter < s.cfg.frameRetryCount →
    let r : State := { s with
      cause := .sequenceMismatch
      rxc := { s.rxc with ftype := .r, rSeq := n, rErr := e }
      sv := { s.sv with
        rnackRetryCounter := 0, wtxCounter := 0, recoveryCounter := s.sv.recoveryCounter + 1 } }
    let nack : State := { r with
      ntx := { s.ntx with ftype := .r, r := { kind := .nack, err := .other, seq := !s.rxc.iSeq } }
      pstate := .sendRNack }
    let resend := (s.ltx.i.buf ≠ none ∧ 1 ≤ s.ltx.i.fragLen) ∧ n = s.ltx.i.seq ∧ s.ltx.r.kind = .nack
    let ackLost := n ≠ s.ltx.i.seq ∧ s.ltx.r.kind = .ack
    exec (.dispatch (.r n k e)) s = exec i s ∧
    (s.ltx.ftype = .i → exec i s = .next { r with ntx := s.ltx, pstate := .sendIframe }) ∧
    (s.ltx.ftype = .lock → exec i s = .next { r with ntx := s.ltx, pstate := .sendLockAcquire }) ∧
    (s.ltx.ftype = .s → ∀ sub ps, s.ltx.s.subtype = .named sub →
      (sub, ps) ∈ [(SName.resynchReq, PState.sendSResync), (.ifsReq, .sendSIfsAdjust),
        (.wtxRsp, .sendSWtxResponse), (.atrReq, .sendSAtrRequest), (.intfResetReq, .sendSIntfReset),
        (.endOfSessionReq, .sendSEndOfSession), (.hardResetReq, .sendSHardReset)] →
      exec i s = .next { r with ntx := s.ltx, pstate := ps }) ∧
    (s.ltx.ftype = .r → resend →
      exec i s = .next { r with ntx := { s.ltx with ftype := .i }, pstate := .sendIframe }) ∧
    (s.ltx.ftype = .r → ackLost → exec i s = .next { r with ntx := s.ltx, pstate := .sendRAck }) ∧
    (s.ltx.ftype = .r → ¬ resend → ¬ ackLost → exec i s = .next nack) ∧
    (s.ltx.ftype = .none → exec i s = .next nack)

/-- R188, R189, R250: the four responses without data end the exchange and leave `STATUS` as it was. -/
def Obligations.PlainResponsesTerminate : Prop :=
  ∀ (s : State) (p : Bytes) (i : Instr) (sub : SName),
    (i, sub) ∈ [(Instr.sResynchRsp p, SName.resynchRsp), (.sAbortRsp p, .abortRsp),
      (.sHardResetRsp p, .hardResetRsp), (.sEndOfSessionRsp p, .endOfSessionRsp)] →
    let t : State := { s with
      rxc := { s.rxc with ftype := .s, sSubtype := .named sub }
      sv := { s.sv with rnackRetryCounter := 0, wtxCounter := 0, recoveryCounter := 0 }
      pstate := .idle }
    exec i s = .next t ∧ exec (.dispatch (.s (.named sub) p none .none)) s = .next t

/-- R190, R213: an IFS response of one or two bytes whose value the variant can use sets the bound, in `SV` and in
the context being prepared; every other one only terminates. -/
def Obligations.IfsResponseSetsTheBound : Prop :=
  ∀ (s : State) (p : Bytes),
    let t : State := { s with
      rxc := { s.rxc with ftype := .s, sSubtype := .named .ifsRsp }
      sv := { s.sv with rnackRetryCounter := 0, wtxCounter := 0, recoveryCounter := 0 }
      pstate := .idle }
    let v : Option Nat := match p with
      | [x] => some x.toNat
      | [x, y] => some (256 * x.toNat + y.toNat)
      | _ => none
    (∀ n, v = some n → 1 ≤ n → (s.variant = .extended ∨ n ≤ 254) →
      exec (.sIfsRsp p) s = .next { t with
        sv := { t.sv with ifsCurrent := n }
        ntx := { s.ntx with i := { s.ntx.i with maxLen := n } } }) ∧
    ((v = none ∨ v = some 0 ∨ (∃ n, v = some n ∧ 254 < n ∧ s.variant = .legacy)) →
      exec (.sIfsRsp p) s = .next t)

/-- R191, R192: the two responses that bear an ATR apply it when the payload is not empty, and terminate; the
interface-reset response also tells the chip's variant by its payload. `SV.ifs_current` stays. -/
def Obligations.AtrBearingResponses : Prop :=
  ∀ (s : State) (p : Bytes) (i : Instr) (sub : SName),
    (i, sub) ∈ [(Instr.sIntfResetRsp p, SName.intfResetRsp), (.sAtrRsp p, .atrRsp)] →
    let t : State := { s with
      rxc := { s.rxc with ftype := .s, sSubtype := .named sub }
      sv := { s.sv with rnackRetryCounter := 0, wtxCounter := 0, recoveryCounter := 0 }
      variant := if sub = .atrRsp then s.variant else if p = [] then .legacy else .extended
      pstate := .idle }
    (p = [] → exec i s = .next t) ∧
    (p ≠ [] → exec i s = .next { t with
      sv := { t.sv with
        atr := some { Config.parseAtr p with raw := p }
        ifsMax := (Config.parseAtr p).maxIfsc } })

/-- R193, R180: a WTX request counts; below the limit it is answered after a sleep, at the limit the exchange fails.
The recovery counter stays. The R-NACK counter is cleared, as R180 and R251 say and R254 does not (log entry 31). -/
def Obligations.WtxRequestCounts : Prop :=
  ∀ (s : State) (p : Bytes),
    let t : State := { s with
      rxc := { s.rxc with ftype := .s, sSubtype := .named .wtxReq }
      sv := { s.sv with rnackRetryCounter := 0, wtxCounter := s.sv.wtxCounter + 1 } }
    (s.sv.wtxCounter + 1 < s.sv.wtxCounterLimit →
      exec (.sWtxReq p) s = .next { t with
        trace := .slept s.cfg.wtxDelay :: s.trace
        ntx := { s.ntx with ftype := .s, s := { subtype := .named .wtxRsp, payload := [s.cfg.wtxRspPayload] } }
        pstate := .sendSWtxResponse }) ∧
    (s.sv.wtxCounterLimit ≤ s.sv.wtxCounter + 1 →
      exec (.sWtxReq p) s = .next { t with status := .transceiveFailed, pstate := .idle })

/-- R194, R237 to R239: every other S-frame records its subtype and, below the guard's limit, replays the last
S-frame sent when there is one that is not a WTX response, and is answered with an R-NACK otherwise. -/
def Obligations.UnexpectedSframesReplayOrNack : Prop :=
  ∀ (s : State) (p : Bytes) (u : BitVec 6) (i : Instr) (sub : SSub) (c : Cause),
    (i, sub, c) ∈ [(Instr.sResynchReq p, SSub.named .resynchReq, Cause.sequenceMismatch),
      (.sIfsReq p, .named .ifsReq, .sequenceMismatch), (.sAbortReq p, .named .abortReq, .sequenceMismatch),
      (.sIntfResetReq p, .named .intfResetReq, .sequenceMismatch),
      (.sEndOfSessionReq p, .named .endOfSessionReq, .sequenceMismatch),
      (.sHardResetReq p, .named .hardResetReq, .sequenceMismatch),
      (.sAtrReq p, .named .atrReq, .sequenceMismatch), (.sWtxRsp p, .named .wtxRsp, .sequenceMismatch),
      (.sUnknown u p, .unknown u, .unknownSubtype)] →
    s.sv.recoveryCounter < s.cfg.frameRetryCount →
    let r : State := { s with
      cause := c
      rxc := { s.rxc with ftype := .s, sSubtype := sub }
      sv := { s.sv with
        rnackRetryCounter := 0, wtxCounter := 0, recoveryCounter := s.sv.recoveryCounter + 1 } }
    (s.ltx.ftype = .s → ∀ n ps, s.ltx.s.subtype = .named n →
      (n, ps) ∈ [(SName.resynchReq, PState.sendSResync), (.ifsReq, .sendSIfsAdjust), (.atrReq, .sendSAtrRequest),
        (.intfResetReq, .sendSIntfReset), (.endOfSessionReq, .sendSEndOfSession),
        (.hardResetReq, .sendSHardReset)] →
      exec i s = .next { r with ntx := s.ltx, pstate := ps }) ∧
    ((s.ltx.ftype ≠ .s ∨ s.ltx.s.subtype = .named .wtxRsp) →
      exec i s = .next { r with
        ntx := { s.ntx with ftype := .r, r := { kind := .nack, err := .other, seq := !s.rxc.iSeq } }
        pstate := .sendRNack })

/-- R237, R241, R242: once the recovery counter is at its limit, a frame that is not the expected one escalates: an
interface reset is sent, or, after one, the block gives up. -/
def Obligations.RejectedFramesEscalate : Prop :=
  ∀ (s : State) (i : Instr) (f : Frame), i.toFrame = some f → s.cfg.frameRetryCount ≤ s.sv.recoveryCounter →
    let x : RxCtx := match f with
      | .i _ _ _ => { s.rxc with ftype := .i }
      | .r n _ e => { s.rxc with ftype := .r, rSeq := n, rErr := e }
      | .s sub _ _ _ => { s.rxc with ftype := .s, sSubtype := sub }
    let c : Cause := match f with
      | .s (.unknown _) _ _ _ => .unknownSubtype
      | _ => .sequenceMismatch
    let rejected : Prop := match f with
      | .i q _ _ => q = s.rxc.iSeq
      | .r n k _ => ¬ (k = .ack ∧ s.ltx.i.buf ≠ none ∧ s.ltx.i.chained = true ∧ n = !s.ltx.i.seq)
      | .s (.named n) _ _ _ => n.isRsp = false ∧ n ≠ .wtxReq ∨ n = .wtxRsp
      | .s _ _ _ _ => True
    let e : List ChEvent := match f with
      | .i _ _ _ => [.slept s.cfg.recoveryDelay]
      | _ => []
    let r : State := { s with
      cause := c
      rxc := x
      sv := { s.sv with rnackRetryCounter := 0, wtxCounter := 0 }
      trace := e ++ s.trace }
    rejected →
    (s.sv.recoveryCounter = s.cfg.frameRetryCount → exec i s = .next { r with
      ntx := { s.ntx with ftype := .s, s := { subtype := .named .intfResetReq, payload := [] } }
      sv := { r.sv with recoveryCounter := s.cfg.frameRetryCount + 1 }
      status := (match s.cfg.recoveryResetStatus with | .recoveryExhausted => .recoveryExhausted | .ok => .ok)
      pstate := .sendSIntfReset }) ∧
    (s.cfg.frameRetryCount < s.sv.recoveryCounter → ∃ t, exec .resetParams r = .next t ∧
      exec i s = .next { t with rlist := s.rlist, status := .recoveryExhausted, cause := c })

/-- R234: a frame that is rejected is not applied in any part: the partial response, the sequence number expected,
the variant, the IFS and the ATR are untouched, and the pending command's context is the old one or the one last
sent, until the block gives up. The spec marks R234 as derived. -/
def Obligations.RejectedFramesAreNotApplied : Prop :=
  ∀ (s t : State) (i : Instr) (f : Frame), i.toFrame = some f → s.sv.recoveryCounter ≤ s.cfg.frameRetryCount →
    (match f with
      | .i q _ _ => q = s.rxc.iSeq
      | .r n k _ => ¬ (k = .ack ∧ s.ltx.i.buf ≠ none ∧ s.ltx.i.chained = true ∧ n = !s.ltx.i.seq)
      | .s (.named n) _ _ _ => n.isRsp = false ∧ n ≠ .wtxReq ∨ n = .wtxRsp
      | .s _ _ _ _ => True) →
    exec i s = .next t →
    t.rlist = s.rlist ∧ t.rxc.iSeq = s.rxc.iSeq ∧ t.rxc.iChained = s.rxc.iChained ∧ t.variant = s.variant ∧
    t.sv.ifsCurrent = s.sv.ifsCurrent ∧ t.sv.ifsMax = s.sv.ifsMax ∧ t.sv.atr = s.sv.atr ∧ t.top = s.top ∧
    (t.ntx.i = s.ntx.i ∨ t.ntx = s.ltx ∨ t.ntx = { s.ltx with ftype := .i }) ∧ t.ltx = s.ltx ∧
    t.cause ≠ .none

/-! ## The host operations -/

/-- R200, R215, R216: `Busy` before `InvalidParameter`, and neither writes anything; the parameters each operation
refuses (R201, R203, R209, R210, R215). -/
def Obligations.PreconditionErrors : Prop :=
  ∀ (s : State),
    (∀ i : Instr, i.isHostOp = true → s.top ≠ .idle → exec i s = .next { s with ret := .err .busy }) ∧
    (s.top = .idle → ∀ i : Instr,
      (i = .openSession none ∨ i = .transceive none ∨
        (∃ b, i = .transceive (some b) ∧ (b.len = 0 ∨ 2 ^ 32 ≤ b.len)) ∨
        (i = .closeAllSessions ∧ ∀ a, s.sv.atr = some a → a.osVersion < 10) ∨
        (∃ n, i = .setIfs n ∧ (n = 0 ∨ s.sv.ifsMax < n ∨ (s.variant = .legacy ∧ 254 < n) ∨ 65535 < n)) ∨
        i = .setEndpoint none) →
      exec i s = .next { s with ret := .err .invalidParameter })

/-- R201, R207, R202 up to the first `run`: `open` and `reset` run `reset_params` and then prepare the handshake the
mode and the variant select. An operation is a sequence of transitions (R50, R200; log entry 9). -/
def Obligations.ResettingOperationsStart : Prop :=
  ∀ (s : State), s.top = .idle → ∃ r, exec .resetParams s = .next r ∧
    let start (n : SName) (ps : PState) (k : Cont) : State := { r with
      top := .transceive
      ntx := { r.ntx with ftype := .s, s := { subtype := .named n, payload := [] } }
      pstate := ps
      ctl := .running k }
    exec (.openSession (some .intfReset)) s = .next (start .intfResetReq .sendSIntfReset .openHandshake) ∧
    (s.variant = .legacy →
      exec (.openSession (some .resync)) s = .next (start .resynchReq .sendSResync .openHandshake) ∧
      exec .reset s = .next (start .resynchReq .sendSResync .resetResync)) ∧
    (s.variant = .extended →
      exec (.openSession (some .resync)) s = .next (start .hardResetReq .sendSHardReset .openHandshake) ∧
      exec .reset s = .next (start .hardResetReq .sendSHardReset .resetHard))

/-- R202, R203, R206, R208 to R210, R212 up to their `run`: what each operation seeds (log entry 9). -/
def Obligations.ExchangeOperationsStart : Prop :=
  ∀ (s : State), s.top = .idle →
    let start (m : TopState) (n : SName) (p : Bytes) (ps : PState) (k : Cont) : State := { s with
      top := m
      status := .ok
      cause := .none
      ntx := { s.ntx with ftype := .s, s := { subtype := .named n, payload := p } }
      pstate := ps
      ctl := .running k }
    (∀ b : BufRef, 1 ≤ b.len → b.len < 2 ^ 32 → ∃ t, exec (.seedIframe (some b) b.len) s = .next t ∧
      exec (.transceive (some b)) s = .next { t with
        top := .transceive, status := .ok, cause := .none, ctl := .running (.transceive b) }) ∧
    (∀ isFirst, ∃ t, exec .seedLock s = .next t ∧
      exec (.acquireLock isFirst) s = .next { t with
        top := .transceive, status := .ok, cause := .none, ctl := .running .acquireLock }) ∧
    exec .close s = .next (start .deinit .endOfSessionReq [] .sendSEndOfSession .close) ∧
    (∀ a, s.sv.atr = some a → 10 ≤ a.osVersion →
      exec .closeAllSessions s =
        .next (start .deinit .endOfSessionReq [s.cfg.closeAllMarker] .sendSEndOfSession .closeAll)) ∧
    (∀ n, 1 ≤ n → n ≤ s.sv.ifsMax →
      (s.variant = .legacy → n ≤ 254 →
        exec (.setIfs n) s = .next (start .transceive .ifsReq [byteOf n] .sendSIfsAdjust .setIfs)) ∧
      (s.variant = .extended → n ≤ 65535 →
        exec (.setIfs n) s =
          .next (start .transceive .ifsReq [byteOf (n / 256), byteOf (n % 256)] .sendSIfsAdjust .setIfs))) ∧
    exec .getAtr s = .next (start .transceive .atrReq [] .sendSAtrRequest .getAtr)

/-- R211, R214: `get_ifs` and `release` end at once and write nothing; at rest `TOP` and the operation in progress
keep their values. -/
def Obligations.ImmediateOperations : Prop :=
  ∀ (s : State), s.top = .idle → s.ctl = .atRest →
    exec .getIfs s = .next { s with ret := .okNat s.sv.ifsCurrent } ∧
    exec .release s = .next { s with ret := .ok }

/-- R215, R216: the active state comes from the snapshot and is not saved; the snapshot takes the active state. -/
def Obligations.EndpointOperations : Prop :=
  ∀ (s : State) (ep : Endpoint), s.top = .idle →
    let x : Snapshot := match ep with | .ese => s.epEse | .euicc => s.epEuicc
    exec (.setEndpoint (some ep)) s = .next { s with
      pstate := x.pstate, top := x.top, status := x.status, cause := x.cause, variant := x.variant, ntx := x.ntx,
      ltx := x.ltx, rxc := x.rxc, sv := x.sv, rlist := x.rlist, epsel := ep, ret := .ok } ∧
    let y : Snapshot := {
      pstate := s.pstate, top := s.top, status := s.status, cause := s.cause, variant := s.variant, ntx := s.ntx,
      ltx := s.ltx, rxc := s.rxc, sv := s.sv, rlist := s.rlist }
    (s.epsel = .ese → exec .resetEndpoint s = .next { s with epEse := y, ret := .ok }) ∧
    (s.epsel = .euicc → exec .resetEndpoint s = .next { s with epEuicc := y, ret := .ok })

/-- R201, R203, R206 to R210, R212 after a `run`: the transition that follows `PSTATE = Idle` returns the result and
gives `TOP` back, or goes on to the second exchange of `open` and `reset`; `transceive` releases the command
buffer (log entry 9). -/
def Obligations.OperationsFinish : Prop :=
  ∀ (s : State), s.pstate = .idle → s.hostIn = [] →
    let fin (r : Ret) : State := { s with top := .idle, ctl := .atRest, ret := r }
    let err : Ret := match s.status with
      | .ok => .ok
      | .recoveryExhausted => .err .recoveryExhausted
      | .transceiveFailed => .err .transceiveFailed
      | .ioFailure => .err .ioFailure
    let atrRequest (k : Cont) : State := { s with
      cause := .none
      ntx := { s.ntx with ftype := .s, s := { subtype := .named .atrReq, payload := [] } }
      pstate := .sendSAtrRequest
      ctl := .running k }
    let drop (x : TxCtx) : TxCtx := { x with
      i := { x.i with buf := none, offset := 0, remaining := 0, fragLen := 0, chained := false } }
    (∀ b, s.ctl = .running (.transceive b) →
      (s.status = .ok → step s = .next { fin (.okBytes s.rlist.flatten) with ntx := drop s.ntx, ltx := drop s.ltx }) ∧
      (∀ e, err = .err e →
        step s = .next { fin (.errPartial e s.rlist.flatten) with ntx := drop s.ntx, ltx := drop s.ltx })) ∧
    ((s.ctl = .running .acquireLock ∨ s.ctl = .running .resetResync ∨ s.ctl = .running .resetAtr ∨
      s.ctl = .running .closeAll ∨ s.ctl = .running .setIfs) → step s = .next (fin err)) ∧
    (s.ctl = .running .close → step s = .next (fin .ok)) ∧
    (s.ctl = .running .getAtr →
      (s.status = .ok → step s = .next (fin (.okBytes (match s.sv.atr with | some a => a.raw | none => [])))) ∧
      (s.status ≠ .ok → step s = .next (fin err))) ∧
    (s.ctl = .running .resetHard →
      step s = .next (if s.status = .ok then atrRequest .resetAtr else fin err)) ∧
    (s.ctl = .running .openHandshake →
      step s = .next (if s.status = .ok ∧ s.variant = .extended then atrRequest .openAtr else fin err)) ∧
    (s.ctl = .running .openAtr →
      (∀ a, s.status = .ok → s.sv.atr = some a → 1 ≤ a.maxIfsc →
        step s = .next { fin .ok with
          sv := { s.sv with ifsCurrent := min a.maxIfsc 65535 }
          ntx := { s.ntx with i := { s.ntx.i with maxLen := min a.maxIfsc 65535 } } }) ∧
      ((s.status ≠ .ok ∨ ∀ a, s.sv.atr = some a → a.maxIfsc = 0) → step s = .next (fin err)))

/-! ## The sequencer and the machine -/

/-- R160, R162, R167 and the frames of R163: `Idle` does nothing; a failed send ends the exchange and leaves `LTX`;
after a send, a receive that fails or does not decode sets `CAUSE` and meets the retry policy of R236, and a frame
that decodes is executed. -/
def Obligations.StepMakesOneExchange : Prop :=
  ∀ (s : State),
    (s.pstate = .idle → exec .step s = .next s) ∧
    (∀ op u F ss, s.pstate ≠ .idle → sendStateAgrees s.pstate s.ntx = true → sendingOp s = some op →
      exec op s = .next u → u.ret = .frameBytes F →
      (s.sendScript = .ioError :: ss →
        exec .step s = .next { s with
          txf := F, sendScript := ss, trace := .sent F .ioError :: s.trace
          cause := .ioFailure, status := .ioFailure, pstate := .idle }) ∧
      (∀ a rs, s.sendScript = .ok :: ss → s.recvScript = a :: rs →
        let r : State := { s with
          txf := F, ltx := s.ntx, sendScript := ss, recvScript := rs
          trace := .received s.cfg.recvTimeout a :: .sent F .ok :: s.trace }
        let lost (c : Cause) (r : State) : State :=
          if s.sv.rnackRetryCounter < s.sv.rnackRetryLimit then
            { r with
              cause := c
              ntx := { s.ntx with ftype := .r, r := { kind := .nack, err := .parity, seq := !s.rxc.iSeq } }
              sv := { s.sv with rnackRetryCounter := s.sv.rnackRetryCounter + 1 }
              pstate := .sendRNack }
          else { r with cause := c, status := .recoveryExhausted, pstate := .idle }
        (a = .timeout → exec .step s = .next (lost .timeout r)) ∧
        (a = .ioError → exec .step s = .next (lost .ioFailure r)) ∧
        (∀ G, a = .bytes G → ∀ e, decodeFrame s.cfg s.variant s.epsel G = .error e →
          exec .step s = .next (lost (match e with
            | .checksumMismatch => .checksumMismatch
            | .malformed => .malformed) { r with rxf := G })) ∧
        (∀ G f, a = .bytes G → decodeFrame s.cfg s.variant s.epsel G = .frame f →
          exec .step s = exec (.dispatch f) { r with rxf := G })))

/-- R164, R50: in one `step` the block sends exactly one frame, that of its state, and, if the send succeeded, receives
exactly once, and sleeps at most once after that. The spec marks R164 as derived. That one sleep at most follows the
receive is the model's reading of R47, R183 and R193 (log entry 22); R50 speaks of two at most. -/
def Obligations.StepIsHalfDuplex : Prop :=
  ∀ (s t : State), s.pstate ≠ .idle → exec .step s = .next t →
    ∃ op u F, sendingOp s = some op ∧ exec op s = .next u ∧ u.ret = .frameBytes F ∧ t.txf = F ∧
      (t.trace = .sent F .ioError :: s.trace ∨
        ∃ a sl, (sl = [] ∨ ∃ d, sl = [.slept d]) ∧
          t.trace = sl ++ .received s.cfg.recvTimeout a :: .sent F .ok :: s.trace)

/-- R161: `run` clears `STATUS` and `CAUSE` and begins; while `PSTATE ≠ Idle` each transition of the machine is one
`step`; a bare `run` then returns `STATUS` (log entry 9). -/
def Obligations.RunDrivesToIdle : Prop :=
  ∀ (s : State),
    (∀ k, (s.ctl = .running k ∨ s.ctl = .atRest ∧ k = .bare) →
      exec .run s = .next { s with status := .ok, cause := .none, ctl := .running k }) ∧
    (∀ k, s.ctl = .running k → s.hostIn = [] → s.pstate ≠ .idle → step s = exec .step s) ∧
    (s.ctl = .running .bare → s.hostIn = [] → s.pstate = .idle →
      step s = .next { s with ctl := .atRest, ret := .status s.status })

/-- A transition runs the decoded instruction: when the adapter takes the frame of `PSTATE` and answers with bytes
that decode to the wire frame `i`, the transition is `exec i` after the writes of the send and of the receive
(R160). -/
def Obligations.StepRunsDecodedInstruction : Prop :=
  ∀ (s : State) (k : Cont) (op : Instr) (u : State) (F G : Bytes) (ss : List SendAnswer) (rs : List RecvAnswer)
    (i : Instr) (rest : List HostEvent),
    (s.hostIn = [] ∧ rest = [] ∨ s.hostIn = .quiet :: rest) → s.ctl = .running k → s.pstate ≠ .idle → sendStateAgrees s.pstate s.ntx = true →
    sendingOp s = some op → exec op s = .next u → u.ret = .frameBytes F →
    s.sendScript = .ok :: ss → s.recvScript = .bytes G :: rs →
    decodeInstr s.cfg s.variant s.epsel G = .ok i →
    step s = exec i { s with
      hostIn := rest, txf := F, ltx := s.ntx, rxf := G, sendScript := ss, recvScript := rs
      trace := .received s.cfg.recvTimeout (.bytes G) :: .sent F .ok :: s.trace }

/-- R270, R200, R260, R51, R281: at rest nothing happens without the host; a call of an operation the host may call is
`exec` of it, and every other call is turned away; a store writes one byte of the host's memory, unless it would
change the command of the operation in progress (log entries 7, 8, 12). -/
def Obligations.HostEventsAtATransition : Prop :=
  ∀ (s : State) (rest : List HostEvent),
    (s.hostIn = [] → s.ctl = .atRest → step s = .next s) ∧
    (s.hostIn = .quiet :: rest → s.ctl = .atRest → step s = .next { s with hostIn := rest }) ∧
    (∀ i : Instr, s.hostIn = .call i :: rest →
      (i.hostCallable = true → step s = exec i { s with hostIn := rest }) ∧
      (i.hostCallable = false → step s = .refused .notHostCallable)) ∧
    (∀ a v, s.hostIn = .store a v :: rest →
      let used := ∃ b, (s.ctl = .running (.transceive b) ∨ s.ntx.i.buf = some b ∨ s.ltx.i.buf = some b) ∧
        b.base ≤ a ∧ a < b.base + b.len
      (s.top ≠ .idle → used → Memory.read s.mem a ≠ v → step s = .refused .bufferChangedInUse) ∧
      ((s.top = .idle ∨ ¬ used ∨ Memory.read s.mem a = v) → Memory.wf s.mem = true →
        ∃ m, step s = .next { s with hostIn := rest, mem := m } ∧ Memory.wf m = true ∧
          Memory.read m a = v ∧ ∀ b, b ≠ a → Memory.read m b = Memory.read s.mem b))

/-! ## Laws of the LRC and of the encodings -/

/-- R94: the laws of `xor8`, and (a) to (e); `lrc B a n` covers `B[a .. n-1]`. The spec marks (a) to (e) as derived
from R90. -/
def Obligations.LrcLaws : Prop :=
  (∀ x y z : Byte, xor8 x y = xor8 y x ∧ xor8 (xor8 x y) z = xor8 x (xor8 y z) ∧ xor8 x 0x00#8 = x ∧
    xor8 x x = 0x00#8) ∧
  (∀ (B : Bytes) (a b c : Nat), a ≤ b → b ≤ c → lrc B a c = xor8 (lrc B a b) (lrc B b c)) ∧
  (∀ (F : Bytes) (k : Nat) (x : Byte), k ≤ F.length → x = lrc F k F.length →
    lrc (F ++ [x]) k (F.length + 1) = 0x00#8) ∧
  (∀ (F : Bytes) (k i : Nat) (h : i < F.length) (v : Byte), k ≤ i → v ≠ F[i] →
    lrc (F.set i v) k F.length = xor8 (lrc F k F.length) (xor8 F[i] v) ∧ xor8 F[i] v ≠ 0x00#8) ∧
  (∀ (c : Cfg) (F : Bytes) (i : Nat) (h : i < F.length) (v : Byte), checkLrc c F = true →
    c.lrcDecFrom.val ≤ i → i + 1 < F.length → v ≠ F[i] → checkLrc c (F.set i v) = false) ∧
  (∀ (F : Bytes) (k i j : Nat) (hi : i < F.length) (hj : j < F.length) (d : Byte), k ≤ i → k ≤ j → i ≠ j →
    lrc ((F.set i (xor8 F[i] d)).set j (xor8 F[j] d)) k F.length = lrc F k F.length) ∧
  (∀ (F : Bytes) (k n i : Nat) (v : Byte), (i < k ∨ n ≤ i) → lrc (F.set i v) k n = lrc F k n)

/-- R105, R92, R95: every frame has its payload's length and four or six bytes more, begins with the address byte and
ends with its LRC; it passes the check of R93 exactly when the two ranges begin at the same byte or the address
byte is zero. The spec marks R105 and R95 as derived. -/
def Obligations.EncodedFramesShape : Prop :=
  ∀ (c : Cfg) (addr : Byte) (i : Instr) (f : Frame) (F : Bytes), i.toFrame = some f → encode c addr i = some F →
    let payload : Bytes := match f with
      | .i _ _ p => p
      | .r _ _ _ => []
      | .s _ p _ _ => p
    let isExt : Prop := ∃ q m p, i = .iExt q m p
    (isExt → F.length = payload.length + 6 ∧ F[2]? = some 0xFF#8) ∧
    (¬ isExt → F.length = payload.length + 4 ∧ F[2]? = some (byteOf payload.length)) ∧
    F.head? = some addr ∧
    F.getLast? = some (lrc F c.lrcEncFrom.val (F.length - 1)) ∧
    (checkLrc c F = true ↔ (c.lrcEncFrom = c.lrcDecFrom ∨ addr = 0x00#8))

/-- R67, R68, R72, R126: the decoder reads the spec's own words, one of each family. -/
def Obligations.DecoderReadsSpecWords : Prop :=
  decodeInstr Cfg.standard .legacy .ese [0xA5#8, 0x60#8, 0x01#8, 0xAB#8, 0xCA#8] =
    .ok (.iShort true true [0xAB#8]) ∧
  decodeInstr Cfg.standard .extended .ese [0xA5#8, 0x00#8, 0xFF#8, 0x00#8, 0x02#8, 0x90#8, 0x00#8, 0x6D#8] =
    .ok (.iExt false false [0x90#8, 0x00#8]) ∧
  decodeInstr Cfg.standard .legacy .ese [0xA5#8, 0x92#8, 0x00#8, 0x92#8] = .ok (.rNackOther true) ∧
  decodeInstr Cfg.standard .legacy .ese [0xA5#8, 0xA0#8, 0x00#8, 0xA0#8] = .ok (.rUndefBit5 false) ∧
  decodeInstr Cfg.standard .legacy .ese [0xA5#8, 0xE1#8, 0x01#8, 0xFE#8, 0x1E#8] = .ok (.sIfsRsp [0xFE#8]) ∧
  decodeInstr Cfg.standard .legacy .ese [0xA5#8, 0xD5#8, 0x00#8, 0xD5#8] = .ok (.sUnknown 0x15#6 []) ∧
  decodeInstr Cfg.standard .legacy .ese [0xA5#8, 0x80#8, 0x01#8, 0x00#8, 0x81#8] = .error .malformed

/-- R129: decoding an encoded well-formed frame gives it back, whatever its operands; a lock frame comes back as the
I-frame with an empty payload. The spec marks R129 as derived. -/
def Obligations.DecodeEncodeRoundTrip : Prop :=
  ∀ (c : Cfg) (v : Variant) (ep : Endpoint) (addr : Byte) (i : Instr) (F : Bytes),
    c.wf → i.wf c = true → encode c addr i = some F →
    (c.lrcEncFrom = c.lrcDecFrom ∨ addr = 0x00#8) → (c.rxAddrCheck = true → addr = c.addrRx ep) →
    (∀ q m p, i = .iExt q m p → v = .extended) →
    decodeInstr c v ep F = .ok (match i with | .lock q => .iShort q false [] | j => j)

/-! ## The whole machine -/

/-- The machine right after reset satisfies the invariant. -/
def Obligations.ResetSatisfiesInv : Prop := State.reset.Inv

/-- The invariant is kept by every step: the memory's canonical form, the bounds of R20 and R253 that the rules keep
(log entries 18 and 32: not `ifs_current ≤ ifs_max`, and not that of the WTX counter), the agreement of
`PSTATE` and `NTX` (R169), the chaining invariants (R150), the mode register (R200, R260), the released buffer
(R203, R281) and the idle snapshots (R25). The spec marks R150, R169, R253 as derived. -/
def Obligations.InvIsKeptByEveryStep : Prop :=
  ∀ (s t : State), s.Inv → step s = .next t → t.Inv

/-- R169, R42 in every state of the invariant: no step faults, and a step is refused only for a call the host may not
make, for a store into the pending command (U7), or for a fragment longer than 254 bytes while the variant is legacy
(U4; log entry 15). A host's own call of `encode_iframe` is left aside: its operand is the host's. -/
def Obligations.StepsOfInvDoNotStop : Prop :=
  ∀ (s : State), s.Inv → (∀ x rest, s.hostIn ≠ .call (.encodeIframe x) :: rest) →
    (∀ f, step s ≠ .fault f) ∧
    (∀ r, step s = .refused r →
      (r = .notHostCallable ∧ ∃ i rest, s.hostIn = .call i :: rest ∧ i.hostCallable = false) ∨
      (r = .bufferChangedInUse ∧ ∃ a v rest, s.hostIn = .store a v :: rest) ∨
      (r = .encoderRaised ∧ s.pstate = .sendIframe ∧ s.variant = .legacy ∧ 254 < s.ntx.i.fragLen))

/-- R41: no instruction stores to the application command memory: every byte reads as before. -/
def Obligations.NoInstructionStores : Prop :=
  ∀ (i : Instr) (s t : State), exec i s = .next t → ∀ a, Memory.read t.mem a = Memory.read s.mem a

/-- R170: no frame received, and no `step`, `run`, retry, retransmission or recovery, writes `TOP`, `EPSEL`, the
snapshots, `SV.ifs_default` or the limits, the operation in progress apart, in any state whose read-only registers
hold the configuration's values. The spec marks R170 as derived. -/
def Obligations.StepWritesNoMode : Prop :=
  ∀ (i : Instr) (s t : State), i.isHostOp = false → i.isCodecOp = false → i ≠ .powerOnReset →
    svOk s.cfg s.sv → exec i s = .next t →
    t.cfg = s.cfg ∧ t.top = s.top ∧ t.epsel = s.epsel ∧ t.epEse = s.epEse ∧ t.epEuicc = s.epEuicc ∧
    t.hostIn = s.hostIn ∧ (i ≠ .run → t.ctl = s.ctl) ∧
    t.sv.ifsDefault = s.sv.ifsDefault ∧ t.sv.wtxCounterLimit = s.sv.wtxCounterLimit ∧
    t.sv.rnackRetryLimit = s.sv.rnackRetryLimit

/-- R273: a successful `reset()` leaves a state that the handshake and the configuration determine, so a second one
with the same handshake leaves it again: legacy in three transitions, extended in five. The spec marks R273 as
derived; the number of transitions is the model's (log entry 9). -/
def Obligations.ResetIsIdempotent : Prop :=
  ∀ (s : State) (G H p q : Bytes) (ss : List SendAnswer) (rs : List RecvAnswer),
    s.top = .idle → s.ctl = .atRest → s.hostIn = [.call .reset] →
    let x (n : SName) : TxCtx := { initialTx s.cfg with ftype := .s, s := { subtype := .named n, payload := [] } }
    (s.variant = .legacy → s.sendScript = .ok :: ss → s.recvScript = .bytes G :: rs →
      decodeInstr s.cfg .legacy s.epsel G = .ok (.sResynchRsp p) →
      ∃ t, Host.Core.run Sys2Proof.core 3 s = .next t ∧
        t.sv = initialSv s.cfg ∧ t.ntx = x .resynchReq ∧ t.ltx = x .resynchReq ∧
        t.rxc = { initialRx with ftype := .s, sSubtype := .named .resynchRsp } ∧ t.rlist = [] ∧
        t.pstate = .idle ∧ t.top = .idle ∧ t.status = .ok ∧ t.cause = .none ∧ t.variant = .legacy ∧
        t.ret = .ok ∧ t.ctl = .atRest) ∧
    (s.variant = .extended → s.sendScript = .ok :: .ok :: ss → s.recvScript = .bytes G :: .bytes H :: rs →
      decodeInstr s.cfg .extended s.epsel G = .ok (.sHardResetRsp p) →
      decodeInstr s.cfg .extended s.epsel H = .ok (.sAtrRsp q) → q ≠ [] →
      ∃ t, Host.Core.run Sys2Proof.core 5 s = .next t ∧
        t.sv = { initialSv s.cfg with
          atr := some { Config.parseAtr q with raw := q }, ifsMax := (Config.parseAtr q).maxIfsc } ∧
        t.ntx = x .atrReq ∧ t.ltx = x .atrReq ∧
        t.rxc = { initialRx with ftype := .s, sSubtype := .named .atrRsp } ∧ t.rlist = [] ∧
        t.pstate = .idle ∧ t.top = .idle ∧ t.status = .ok ∧ t.cause = .none ∧ t.variant = .extended ∧
        t.ret = .ok ∧ t.ctl = .atRest)

/-- R236, R168: against a peer that never answers, an exchange ends after as many receives as attempts remain, with
`RecoveryExhausted` and the counter at its limit. One transition per `step` is the model's form (log entry 9). -/
def Obligations.SilentPeerExhaustsTheRetries : Prop :=
  ∀ (s : State) (k : Cont) (n : Nat) (ss : List SendAnswer) (rs : List RecvAnswer),
    s.Inv → s.hostIn = [] → s.ctl = .running k → s.pstate ≠ .idle →
    ¬ (s.pstate = .sendIframe ∧ s.variant = .legacy ∧ 254 < s.ntx.i.fragLen) →
    s.sv.rnackRetryLimit = s.sv.rnackRetryCounter + n →
    s.sendScript = List.replicate (n + 1) .ok ++ ss → s.recvScript = List.replicate (n + 1) .timeout ++ rs →
    ∃ t, Host.Core.run Sys2Proof.core (n + 1) s = .next t ∧
      t.pstate = .idle ∧ t.status = .recoveryExhausted ∧ t.cause = .timeout ∧
      t.sv = { s.sv with rnackRetryCounter := s.sv.rnackRetryLimit } ∧ t.rlist = s.rlist ∧ t.rxc = s.rxc ∧
      t.ctl = .running k ∧ t.sendScript = ss ∧ t.recvScript = rs ∧
      (n ≠ 0 → t.ltx.ftype = .r ∧ t.ltx.r = { kind := .nack, err := .parity, seq := !s.rxc.iSeq })

/-- R193, R253: against a peer that answers every frame with a WTX request, the block answers one time less than the
requests that reach the limit and then fails the exchange; the command's context is untouched. One transition per `step` is the model's form (log
entry 9); the R-NACK counter is cleared, as R180 and R251 say and R254 does not (log entry 31). -/
def Obligations.WtxRequestsAreBounded : Prop :=
  ∀ (s : State) (k : Cont) (n : Nat) (G p : Bytes) (ss : List SendAnswer) (rs : List RecvAnswer),
    s.Inv → s.hostIn = [] → s.ctl = .running k → s.pstate ≠ .idle →
    ¬ (s.pstate = .sendIframe ∧ s.variant = .legacy ∧ 254 < s.ntx.i.fragLen) →
    s.sv.wtxCounterLimit = s.sv.wtxCounter + (n + 1) →
    decodeInstr s.cfg s.variant s.epsel G = .ok (.sWtxReq p) →
    s.sendScript = List.replicate (n + 1) .ok ++ ss → s.recvScript = List.replicate (n + 1) (.bytes G) ++ rs →
    ∃ t, Host.Core.run Sys2Proof.core (n + 1) s = .next t ∧
      t.pstate = .idle ∧ t.status = .transceiveFailed ∧
      t.sv = { s.sv with wtxCounter := s.sv.wtxCounterLimit, rnackRetryCounter := 0 } ∧
      t.rlist = s.rlist ∧ t.ntx.i = s.ntx.i ∧ t.ctl = .running k ∧ t.sendScript = ss ∧ t.recvScript = rs ∧
      (n ≠ 0 → t.ltx.ftype = .s ∧ t.ltx.s = { subtype := .named .wtxRsp, payload := [s.cfg.wtxRspPayload] })

/-- R160, R163, R169: a step completes in every state whose `PSTATE` and `NTX` agree and whose frame the encoder can
build (R100 to R103, R150), whatever the adapter answers (log entry 3). When the adapter takes the frame and answers
with bytes that decode, the next state is that of the dispatch (R180), after the writes of the send and of the
receive; for the last I-frame of a response it is written out (R182). -/
def Obligations.StepCompletes : Prop :=
  ∀ (s : State), s.pstate ≠ .idle → sendStateAgrees s.pstate s.ntx = true →
    (s.pstate = .sendIframe → ∃ b, s.ntx.i.buf = some b ∧ 1 ≤ s.ntx.i.fragLen ∧
      s.ntx.i.offset + s.ntx.i.fragLen ≤ b.len ∧
      (s.ntx.i.fragLen ≤ 254 ∨ (s.variant = .extended ∧ s.ntx.i.fragLen ≤ 65535))) →
    (s.pstate = .sendRNack → s.ntx.r.err ≠ .none ∧ s.ntx.r.err ≠ .undefined) →
    ((s.pstate = .sendSIfsAdjust ∨ s.pstate = .sendSEndOfSession ∨ s.pstate = .sendSWtxResponse) →
      s.ntx.s.payload.length ≤ 254) →
    (s.ntx.i.chained = true → s.ntx.i.fragLen ≤ s.ntx.i.remaining) →
    (∃ t, exec .step s = .next t) ∧
    ∃ op u F, sendingOp s = some op ∧ exec op s = .next u ∧ u.ret = .frameBytes F ∧
      ∀ G ss rs f, s.sendScript = .ok :: ss → s.recvScript = .bytes G :: rs →
        decodeFrame s.cfg s.variant s.epsel G = .frame f →
        let r : State := { s with
          txf := F, ltx := s.ntx, rxf := G, sendScript := ss, recvScript := rs
          trace := .received s.cfg.recvTimeout (.bytes G) :: .sent F .ok :: s.trace }
        (∃ t, exec .step s = .next t ∧ exec (.dispatch f) r = .next t) ∧
        (∀ q p, f = .i q false p → q = !s.rxc.iSeq → exec .step s = .next { r with
          rxc := { s.rxc with ftype := .i, iSeq := q, iChained := false }
          rlist := s.rlist ++ [p]
          sv := { s.sv with rnackRetryCounter := 0, wtxCounter := 0, recoveryCounter := 0 }
          pstate := .idle })

end
end

