-- ==== Sys2Proof/Laws/Lrc.lean ====
section
/-! SUPPORT. The LRC unit: the fold over the parts of a sequence, and the ranges of short and sealed frames. -/

namespace Sys2Proof

theorem xor8_comm (x y : Byte) : xor8 x y = xor8 y x := BitVec.xor_comm x y

theorem xor8_assoc (x y z : Byte) : xor8 (xor8 x y) z = xor8 x (xor8 y z) := BitVec.xor_assoc x y z

@[simp] theorem xor8_zero (x : Byte) : xor8 x 0x00#8 = x := BitVec.xor_zero

@[simp] theorem zero_xor8 (x : Byte) : xor8 0x00#8 x = x := BitVec.zero_xor

@[simp] theorem xor8_self (x : Byte) : xor8 x x = 0x00#8 := BitVec.xor_self

@[simp] theorem xorFold_nil : xorFold [] = 0x00#8 := rfl

/-- The fold from another start. -/
theorem foldl_xor8 (B : Bytes) (x : Byte) : B.foldl xor8 x = xor8 x (xorFold B) := by
  induction B generalizing x with
  | nil => simp
  | cons b B ih => rw [xorFold, List.foldl_cons, List.foldl_cons, ih, ih (xor8 0x00#8 b), zero_xor8, xor8_assoc]

theorem xorFold_cons (b : Byte) (B : Bytes) : xorFold (b :: B) = xor8 b (xorFold B) := by
  rw [xorFold, List.foldl_cons, foldl_xor8, zero_xor8]

/-- The fold of two parts. -/
theorem xorFold_append (A B : Bytes) : xorFold (A ++ B) = xor8 (xorFold A) (xorFold B) := by
  induction A with
  | nil => simp
  | cons a A ih => rw [List.cons_append, xorFold_cons, ih, xorFold_cons, xor8_assoc]

/-- The range of a frame's LRC does not reach the bytes after it. -/
theorem lrc_append_of_le (A B : Bytes) (a n : Nat) (h : n ≤ A.length) : lrc (A ++ B) a n = lrc A a n := by
  simp [lrc, List.take_append_of_le_length h]

@[simp] theorem length_sealFrame (c : Cfg) (body : Bytes) : (sealFrame c body).length = body.length + 1 := by
  simp [sealFrame]

theorem getLast?_sealFrame (c : Cfg) (body : Bytes) :
    (sealFrame c body).getLast? = some (lrc body c.lrcEncFrom.val body.length) := by
  simp [sealFrame]

/-- A sealed frame passes the check exactly when the two ranges give its body the same LRC. -/
theorem checkLrc_sealFrame (c : Cfg) (body : Bytes) :
    checkLrc c (sealFrame c body) = true ↔
      lrc body c.lrcEncFrom.val body.length = lrc body c.lrcDecFrom.val body.length := by
  have h : lrc (sealFrame c body) c.lrcDecFrom.val (body.length + 1 - 1) = lrc body c.lrcDecFrom.val body.length :=
    lrc_append_of_le _ _ _ _ (by simp)
  simp only [checkLrc, getLast?_sealFrame, length_sealFrame, h, beq_iff_eq, Option.some.injEq]

end Sys2Proof
end

