-- ==== Sys2Proof/Laws/Decode.lean ====
section
/-! SUPPORT. What the decoder can answer, and the shape of the frames the encoder writes. -/

namespace Sys2Proof

theorem isWire_sInstr (n : SName) (p : Bytes) : (sInstr n p).toFrame = some (sFrame n p) := by
  cases n <;> rfl

/-- What `decode_i` gives, if it gives a frame (R124). -/
theorem decodeI_cases {c : Cfg} {v : Variant} {pcb len : Byte} {rest : Bytes} {i : Instr}
    (h : decodeI c v pcb len rest = .ok i) :
    (∃ hi lo body, len = Config.lenExtMarker ∧ v = .extended ∧ rest = hi :: lo :: body ∧
      body.length = natOfBe16 hi lo + 1 ∧
      i = .iExt (bitOf pcb c.iSeqBit) (bitOf pcb c.iChainBit) (body.take (natOfBe16 hi lo))) ∨
    (len ≠ Config.lenExtMarker ∧ rest.length = len.toNat + 1 ∧
      i = .iShort (bitOf pcb c.iSeqBit) (bitOf pcb c.iChainBit) (rest.take len.toNat)) := by
  unfold decodeI at h
  split at h
  · rename_i hl
    split at h
    · cases h
    · rename_i hi lo body
      split at h
      · exact Or.inl ⟨hi, lo, body, hl, rfl, rfl, by assumption, by injection h with h; exact h.symm⟩
      · cases h
    · cases h
  · rename_i hl
    split at h
    · exact Or.inr ⟨hl, by assumption, by injection h with h; exact h.symm⟩
    · cases h

theorem decodeR_cases {c : Cfg} {pcb len : Byte} {rest : Bytes} {i : Instr}
    (h : decodeR c pcb len rest = .ok i) : len = 0x00#8 ∧ rest.length = 1 ∧ i = rInstr c pcb := by
  unfold decodeR at h
  split at h
  · rename_i hl
    exact ⟨hl.1, hl.2, by injection h with h; exact h.symm⟩
  · cases h

/-- What `decode_s` gives, if it gives a frame (R127). -/
theorem decodeS_cases {c : Cfg} {pcb len : Byte} {rest : Bytes} {i : Instr}
    (h : decodeS c pcb len rest = .ok i) :
    len ≠ Config.lenExtMarker ∧ rest.length = len.toNat + 1 ∧
    ((∃ n, c.subtypeOf (pcb.extractLsb' 0 6) = some n ∧ i = sInstr n (rest.take len.toNat)) ∨
     (c.subtypeOf (pcb.extractLsb' 0 6) = none ∧
        i = .sUnknown (pcb.extractLsb' 0 6) (rest.take len.toNat))) := by
  unfold decodeS at h
  split at h
  · cases h
  · rename_i hl
    split at h
    · rename_i hr
      refine ⟨hl, hr, ?_⟩
      split at h
      · exact Or.inl ⟨_, by assumption, by injection h with h; exact h.symm⟩
      · exact Or.inr ⟨by assumption, by injection h with h; exact h.symm⟩
    · cases h

theorem rInstr_toFrame (c : Cfg) (pcb : Byte) : ∃ n k e, (rInstr c pcb).toFrame = some (.r n k e) := by
  unfold rInstr
  dsimp only
  repeat' split
  all_goals exact ⟨_, _, _, rfl⟩

/-- What `decode` gives, if it gives a frame (R121): at least four bytes, a right LRC, the expected address when
it is checked, and the structure the PCB's top bits select. -/
theorem decodeInstr_cases {c : Cfg} {v : Variant} {ep : Endpoint} {F : Bytes} {i : Instr}
    (h : decodeInstr c v ep F = .ok i) :
    ∃ addr pcb len rest, F = addr :: pcb :: len :: rest ∧ rest ≠ [] ∧ checkLrc c F = true ∧
      (c.rxAddrCheck = true → addr = c.addrRx ep) ∧
      ((bitOf pcb 7 = false ∧ decodeI c v pcb len rest = .ok i) ∨
       (bitOf pcb 7 = true ∧ bitOf pcb 6 = false ∧ decodeR c pcb len rest = .ok i) ∨
       (bitOf pcb 7 = true ∧ bitOf pcb 6 = true ∧ decodeS c pcb len rest = .ok i)) := by
  unfold decodeInstr at h
  split at h
  · rename_i addr pcb len rest
    split at h
    · cases h
    · rename_i hrest
      split at h
      · cases h
      · rename_i hlrc
        split at h
        · cases h
        · rename_i haddr
          refine ⟨addr, pcb, len, rest, rfl, hrest, by simpa using hlrc, ?_, ?_⟩
          · intro hc
            simpa [hc] using haddr
          · split at h
            · exact Or.inl ⟨by simp_all, h⟩
            · split at h
              · exact Or.inr (Or.inl ⟨by simp_all, by simp_all, h⟩)
              · exact Or.inr (Or.inr ⟨by simp_all, by simp_all, h⟩)
  · cases h

/-- A frame that passes the tests before classification is decoded by its kind (R121). -/
theorem decodeInstr_classified {c : Cfg} {v : Variant} {ep : Endpoint} {addr pcb len : Byte} {rest : Bytes}
    (h1 : rest ≠ []) (h2 : checkLrc c (addr :: pcb :: len :: rest) = true)
    (h3 : c.rxAddrCheck = true → addr = c.addrRx ep) :
    decodeInstr c v ep (addr :: pcb :: len :: rest) =
      if !bitOf pcb 7 then decodeI c v pcb len rest
      else if !bitOf pcb 6 then decodeR c pcb len rest
      else decodeS c pcb len rest := by
  have h : (c.rxAddrCheck && addr != c.addrRx ep) = false := by
    cases hc : c.rxAddrCheck <;> simp_all
  simp [decodeInstr, h1, h2, h]

/-- Every instruction the decoder reads is a wire frame. -/
theorem decodeInstr_isWire {c : Cfg} {v : Variant} {ep : Endpoint} {F : Bytes} {i : Instr}
    (h : decodeInstr c v ep F = .ok i) : ∃ f, i.toFrame = some f := by
  obtain ⟨_, pcb, _, _, _, _, _, _, h | ⟨_, _, h⟩ | ⟨_, _, h⟩⟩ := decodeInstr_cases h
  · obtain ⟨_, _, _, _, _, _, _, rfl⟩ | ⟨_, _, rfl⟩ := decodeI_cases h.2
    · exact ⟨_, rfl⟩
    · exact ⟨_, rfl⟩
  · obtain ⟨_, _, rfl⟩ := decodeR_cases h
    obtain ⟨_, _, _, e⟩ := rInstr_toFrame c pcb
    exact ⟨_, e⟩
  · obtain ⟨_, _, ⟨n, _, rfl⟩ | ⟨_, rfl⟩⟩ := decodeS_cases h
    · exact ⟨_, isWire_sInstr n _⟩
    · exact ⟨_, rfl⟩

/-- The result of `decode` on a frame the decoder reads. -/
theorem decodeFrame_ok {c : Cfg} {v : Variant} {ep : Endpoint} {F : Bytes} {i : Instr} {f : Frame}
    (h : decodeInstr c v ep F = .ok i) (hf : i.toFrame = some f) : decodeFrame c v ep F = .frame f := by
  simp [decodeFrame, h, hf]

/-- The result of `decode` is an error exactly where the decoder refuses. -/
theorem decodeFrame_error_iff {c : Cfg} {v : Variant} {ep : Endpoint} {F : Bytes} {e : DecodeError} :
    decodeFrame c v ep F = .error e ↔ decodeInstr c v ep F = .error e := by
  unfold decodeFrame
  cases h : decodeInstr c v ep F with
  | error x => simp
  | ok i =>
    obtain ⟨f, hf⟩ := decodeInstr_isWire h
    simp [hf]

/-- The result of `decode` is a frame exactly where the decoder reads an instruction with that record. -/
theorem decodeFrame_frame_iff {c : Cfg} {v : Variant} {ep : Endpoint} {F : Bytes} {f : Frame} :
    decodeFrame c v ep F = .frame f ↔ ∃ i, decodeInstr c v ep F = .ok i ∧ i.toFrame = some f := by
  unfold decodeFrame
  cases h : decodeInstr c v ep F with
  | error x => simp
  | ok i =>
    obtain ⟨g, hg⟩ := decodeInstr_isWire h
    simp [hg]

end Sys2Proof
end

