-- ==== Sys2Proof/Laws/Memory.lean ====
section
/-! SUPPORT. The application command memory: a write is read back, every other address keeps its byte, and the
canonical form is kept. -/

namespace Sys2Proof
namespace Machine

@[simp] theorem Memory.read_nil (a : Nat) : Memory.read [] a = 0x00#8 := rfl

theorem Memory.wf_nil : Memory.wf [] = true := rfl

/-- The canonical form of a memory with a first entry. -/
theorem Memory.wf_cons (c : Host.Cell) (m : Memory) :
    Memory.wf (c :: m) = true ↔ (∀ d ∈ m, c.1 < d.1) ∧ c.2 ≠ 0x00#8 ∧ Memory.wf m = true := by
  simp only [Memory.wf, List.pairwise_cons, List.all_cons, Bool.and_eq_true, decide_eq_true_eq]
  tauto

/-- An address below every entry is unlisted. -/
theorem Memory.read_below (m : Memory) (a : Nat) (h : ∀ d ∈ m, a < d.1) : Memory.read m a = 0x00#8 := by
  induction m with
  | nil => rfl
  | cons c m ih =>
    have hc : a < c.1 := h c (by simp)
    have hne : ¬ c.1 = a := by omega
    rw [show c = (c.1, c.2) from rfl, Memory.read, if_neg hne]
    exact ih fun d hd => h d (by simp [hd])

/-- The addresses a write lists are the old ones and the written one. -/
theorem Memory.mem_write (m : Memory) (a : Nat) (v : Byte) (d : Host.Cell)
    (h : d ∈ Memory.write m a v) : d = (a, v) ∨ d ∈ m := by
  induction m with
  | nil =>
    simp only [Memory.write] at h
    split at h <;> simp_all
  | cons c m ih =>
    simp only [Memory.write] at h
    split at h
    · split at h <;> simp_all
    · split at h
      · split at h
        · exact Or.inr (by simp [h])
        · rcases List.mem_cons.mp h with h | h
          · exact Or.inl h
          · exact Or.inr (by simp [h])
      · rcases List.mem_cons.mp h with h | h
        · exact Or.inr (by simp [h])
        · rcases ih h with h | h
          · exact Or.inl h
          · exact Or.inr (by simp [h])

/-- Every write keeps the canonical form. -/
theorem Memory.write_wf (m : Memory) (a : Nat) (v : Byte) (h : Memory.wf m = true) :
    Memory.wf (Memory.write m a v) = true := by
  induction m with
  | nil =>
    simp only [Memory.write]
    split
    · rfl
    · rename_i hv
      simp [Memory.wf, hv]
  | cons c m ih =>
    obtain ⟨h1, h2, h3⟩ := (Memory.wf_cons c m).mp h
    simp only [Memory.write]
    split
    · rename_i hlt
      split
      · exact h
      · rename_i hv
        refine (Memory.wf_cons _ _).mpr ⟨?_, hv, h⟩
        intro d hd
        rcases List.mem_cons.mp hd with rfl | hd
        · exact hlt
        · exact lt_trans hlt (h1 d hd)
    · split
      · rename_i _ heq
        split
        · exact h3
        · rename_i hv
          exact (Memory.wf_cons _ _).mpr ⟨fun d hd => heq ▸ h1 d hd, hv, h3⟩
      · rename_i hlt hne
        refine (Memory.wf_cons _ _).mpr ⟨?_, h2, ih h3⟩
        intro d hd
        rcases Memory.mem_write m a v d hd with rfl | hd
        · show c.1 < a
          omega
        · exact h1 d hd

/-- A write is read back. -/
theorem Memory.read_write_same (m : Memory) (a : Nat) (v : Byte) (h : Memory.wf m = true) :
    Memory.read (Memory.write m a v) a = v := by
  induction m with
  | nil =>
    simp only [Memory.write]
    split <;> simp_all [Memory.read]
  | cons c m ih =>
    obtain ⟨h1, _, h3⟩ := (Memory.wf_cons c m).mp h
    simp only [Memory.write]
    split
    · rename_i hlt
      split
      · rename_i hv
        rw [hv]
        refine Memory.read_below _ _ fun d hd => ?_
        rcases List.mem_cons.mp hd with rfl | hd
        · exact hlt
        · exact lt_trans hlt (h1 d hd)
      · simp [Memory.read]
    · split
      · rename_i _ heq
        split
        · rename_i hv
          rw [hv]
          exact Memory.read_below _ _ fun d hd => heq ▸ h1 d hd
        · simp [Memory.read]
      · rename_i _ hne
        rw [show c = (c.1, c.2) from rfl, Memory.read, if_neg (fun e => hne e.symm)]
        exact ih h3

/-- A write leaves every other address alone. -/
theorem Memory.read_write_other (m : Memory) (a b : Nat) (v : Byte) (hab : b ≠ a) :
    Memory.read (Memory.write m a v) b = Memory.read m b := by
  induction m with
  | nil =>
    simp only [Memory.write]
    split
    · rfl
    · simp [Memory.read, Ne.symm hab]
  | cons c m ih =>
    have hc : c = (c.1, c.2) := rfl
    simp only [Memory.write]
    split
    · split
      · rfl
      · conv_lhs => rw [Memory.read, if_neg (Ne.symm hab)]
    · split
      · rename_i _ heq
        have hne : ¬ c.1 = b := fun e => hab (e.symm.trans heq.symm)
        split
        · conv_rhs => rw [hc, Memory.read, if_neg hne]
        · conv_lhs => rw [Memory.read, if_neg (Ne.symm hab)]
          conv_rhs => rw [hc, Memory.read, if_neg hne]
      · conv_lhs => rw [hc, Memory.read]
        conv_rhs => rw [hc, Memory.read]
        rw [ih]

@[simp] theorem Memory.slice_length (m : Memory) (a n : Nat) : (Memory.slice m a n).length = n := by
  simp [Memory.slice]

/-- Two neighbouring slices are one. -/
theorem Memory.slice_append (m : Memory) (a n k : Nat) :
    Memory.slice m a n ++ Memory.slice m (a + n) k = Memory.slice m a (n + k) := by
  simp [Memory.slice, List.range_add, List.map_map, Function.comp_def, Nat.add_assoc]

/-- What `MemRead` gives, if it gives a value (R42). -/
theorem memRead_some {m : Memory} {buf : Option BufRef} {off n : Nat} {v : Bytes}
    (h : memRead m buf off n = some v) :
    ∃ b, buf = some b ∧ off + n ≤ b.len ∧ v = Memory.slice m (b.base + off) n := by
  unfold memRead at h
  split at h
  · cases h
  · rename_i b
    split at h
    · exact ⟨b, rfl, by assumption, by simpa using h.symm⟩
    · cases h

theorem memRead_inside (m : Memory) (b : BufRef) (off n : Nat) (h : off + n ≤ b.len) :
    memRead m (some b) off n = some (Memory.slice m (b.base + off) n) := by
  simp [memRead, h]

end Machine
end Sys2Proof
end

