-- ==== Sys2Proof/Laws/State.lean ====
section
/-! SUPPORT. What each named update of the state writes, field by field, so that no later proof unfolds it. -/

namespace Sys2Proof
namespace Machine

/-! ### `setCause` -/

@[simp] theorem setCause_cfg (c : Cause) (s : State) :
    (setCause c s).cfg = s.cfg := rfl
@[simp] theorem setCause_pstate (c : Cause) (s : State) :
    (setCause c s).pstate = s.pstate := rfl
@[simp] theorem setCause_top (c : Cause) (s : State) :
    (setCause c s).top = s.top := rfl
@[simp] theorem setCause_status (c : Cause) (s : State) :
    (setCause c s).status = s.status := rfl
@[simp] theorem setCause_cause (c : Cause) (s : State) :
    (setCause c s).cause = c := rfl
@[simp] theorem setCause_variant (c : Cause) (s : State) :
    (setCause c s).variant = s.variant := rfl
@[simp] theorem setCause_epsel (c : Cause) (s : State) :
    (setCause c s).epsel = s.epsel := rfl
@[simp] theorem setCause_ntx (c : Cause) (s : State) :
    (setCause c s).ntx = s.ntx := rfl
@[simp] theorem setCause_ltx (c : Cause) (s : State) :
    (setCause c s).ltx = s.ltx := rfl
@[simp] theorem setCause_rxc (c : Cause) (s : State) :
    (setCause c s).rxc = s.rxc := rfl
@[simp] theorem setCause_sv (c : Cause) (s : State) :
    (setCause c s).sv = s.sv := rfl
@[simp] theorem setCause_rlist (c : Cause) (s : State) :
    (setCause c s).rlist = s.rlist := rfl
@[simp] theorem setCause_epEse (c : Cause) (s : State) :
    (setCause c s).epEse = s.epEse := rfl
@[simp] theorem setCause_epEuicc (c : Cause) (s : State) :
    (setCause c s).epEuicc = s.epEuicc := rfl
@[simp] theorem setCause_txf (c : Cause) (s : State) :
    (setCause c s).txf = s.txf := rfl
@[simp] theorem setCause_rxf (c : Cause) (s : State) :
    (setCause c s).rxf = s.rxf := rfl
@[simp] theorem setCause_mem (c : Cause) (s : State) :
    (setCause c s).mem = s.mem := rfl
@[simp] theorem setCause_ctl (c : Cause) (s : State) :
    (setCause c s).ctl = s.ctl := rfl
@[simp] theorem setCause_ret (c : Cause) (s : State) :
    (setCause c s).ret = s.ret := rfl
@[simp] theorem setCause_trace (c : Cause) (s : State) :
    (setCause c s).trace = s.trace := rfl
@[simp] theorem setCause_sendScript (c : Cause) (s : State) :
    (setCause c s).sendScript = s.sendScript := rfl
@[simp] theorem setCause_recvScript (c : Cause) (s : State) :
    (setCause c s).recvScript = s.recvScript := rfl
@[simp] theorem setCause_hostIn (c : Cause) (s : State) :
    (setCause c s).hostIn = s.hostIn := rfl
@[simp] theorem setCause_tick (c : Cause) (s : State) :
    (setCause c s).tick = s.tick := rfl

/-! ### `endExchange` -/

@[simp] theorem endExchange_cfg (st : Status) (s : State) :
    (endExchange st s).cfg = s.cfg := rfl
@[simp] theorem endExchange_pstate (st : Status) (s : State) :
    (endExchange st s).pstate = .idle := rfl
@[simp] theorem endExchange_top (st : Status) (s : State) :
    (endExchange st s).top = s.top := rfl
@[simp] theorem endExchange_status (st : Status) (s : State) :
    (endExchange st s).status = st := rfl
@[simp] theorem endExchange_cause (st : Status) (s : State) :
    (endExchange st s).cause = s.cause := rfl
@[simp] theorem endExchange_variant (st : Status) (s : State) :
    (endExchange st s).variant = s.variant := rfl
@[simp] theorem endExchange_epsel (st : Status) (s : State) :
    (endExchange st s).epsel = s.epsel := rfl
@[simp] theorem endExchange_ntx (st : Status) (s : State) :
    (endExchange st s).ntx = s.ntx := rfl
@[simp] theorem endExchange_ltx (st : Status) (s : State) :
    (endExchange st s).ltx = s.ltx := rfl
@[simp] theorem endExchange_rxc (st : Status) (s : State) :
    (endExchange st s).rxc = s.rxc := rfl
@[simp] theorem endExchange_sv (st : Status) (s : State) :
    (endExchange st s).sv = s.sv := rfl
@[simp] theorem endExchange_rlist (st : Status) (s : State) :
    (endExchange st s).rlist = s.rlist := rfl
@[simp] theorem endExchange_epEse (st : Status) (s : State) :
    (endExchange st s).epEse = s.epEse := rfl
@[simp] theorem endExchange_epEuicc (st : Status) (s : State) :
    (endExchange st s).epEuicc = s.epEuicc := rfl
@[simp] theorem endExchange_txf (st : Status) (s : State) :
    (endExchange st s).txf = s.txf := rfl
@[simp] theorem endExchange_rxf (st : Status) (s : State) :
    (endExchange st s).rxf = s.rxf := rfl
@[simp] theorem endExchange_mem (st : Status) (s : State) :
    (endExchange st s).mem = s.mem := rfl
@[simp] theorem endExchange_ctl (st : Status) (s : State) :
    (endExchange st s).ctl = s.ctl := rfl
@[simp] theorem endExchange_ret (st : Status) (s : State) :
    (endExchange st s).ret = s.ret := rfl
@[simp] theorem endExchange_trace (st : Status) (s : State) :
    (endExchange st s).trace = s.trace := rfl
@[simp] theorem endExchange_sendScript (st : Status) (s : State) :
    (endExchange st s).sendScript = s.sendScript := rfl
@[simp] theorem endExchange_recvScript (st : Status) (s : State) :
    (endExchange st s).recvScript = s.recvScript := rfl
@[simp] theorem endExchange_hostIn (st : Status) (s : State) :
    (endExchange st s).hostIn = s.hostIn := rfl
@[simp] theorem endExchange_tick (st : Status) (s : State) :
    (endExchange st s).tick = s.tick := rfl

/-! ### `setRnack` -/

@[simp] theorem setRnack_cfg (n : Nat) (s : State) :
    (setRnack n s).cfg = s.cfg := rfl
@[simp] theorem setRnack_pstate (n : Nat) (s : State) :
    (setRnack n s).pstate = s.pstate := rfl
@[simp] theorem setRnack_top (n : Nat) (s : State) :
    (setRnack n s).top = s.top := rfl
@[simp] theorem setRnack_status (n : Nat) (s : State) :
    (setRnack n s).status = s.status := rfl
@[simp] theorem setRnack_cause (n : Nat) (s : State) :
    (setRnack n s).cause = s.cause := rfl
@[simp] theorem setRnack_variant (n : Nat) (s : State) :
    (setRnack n s).variant = s.variant := rfl
@[simp] theorem setRnack_epsel (n : Nat) (s : State) :
    (setRnack n s).epsel = s.epsel := rfl
@[simp] theorem setRnack_ntx (n : Nat) (s : State) :
    (setRnack n s).ntx = s.ntx := rfl
@[simp] theorem setRnack_ltx (n : Nat) (s : State) :
    (setRnack n s).ltx = s.ltx := rfl
@[simp] theorem setRnack_rxc (n : Nat) (s : State) :
    (setRnack n s).rxc = s.rxc := rfl
@[simp] theorem setRnack_sv (n : Nat) (s : State) :
    (setRnack n s).sv = { s.sv with rnackRetryCounter := n } := rfl
@[simp] theorem setRnack_rlist (n : Nat) (s : State) :
    (setRnack n s).rlist = s.rlist := rfl
@[simp] theorem setRnack_epEse (n : Nat) (s : State) :
    (setRnack n s).epEse = s.epEse := rfl
@[simp] theorem setRnack_epEuicc (n : Nat) (s : State) :
    (setRnack n s).epEuicc = s.epEuicc := rfl
@[simp] theorem setRnack_txf (n : Nat) (s : State) :
    (setRnack n s).txf = s.txf := rfl
@[simp] theorem setRnack_rxf (n : Nat) (s : State) :
    (setRnack n s).rxf = s.rxf := rfl
@[simp] theorem setRnack_mem (n : Nat) (s : State) :
    (setRnack n s).mem = s.mem := rfl
@[simp] theorem setRnack_ctl (n : Nat) (s : State) :
    (setRnack n s).ctl = s.ctl := rfl
@[simp] theorem setRnack_ret (n : Nat) (s : State) :
    (setRnack n s).ret = s.ret := rfl
@[simp] theorem setRnack_trace (n : Nat) (s : State) :
    (setRnack n s).trace = s.trace := rfl
@[simp] theorem setRnack_sendScript (n : Nat) (s : State) :
    (setRnack n s).sendScript = s.sendScript := rfl
@[simp] theorem setRnack_recvScript (n : Nat) (s : State) :
    (setRnack n s).recvScript = s.recvScript := rfl
@[simp] theorem setRnack_hostIn (n : Nat) (s : State) :
    (setRnack n s).hostIn = s.hostIn := rfl
@[simp] theorem setRnack_tick (n : Nat) (s : State) :
    (setRnack n s).tick = s.tick := rfl

/-! ### `setWtx` -/

@[simp] theorem setWtx_cfg (n : Nat) (s : State) :
    (setWtx n s).cfg = s.cfg := rfl
@[simp] theorem setWtx_pstate (n : Nat) (s : State) :
    (setWtx n s).pstate = s.pstate := rfl
@[simp] theorem setWtx_top (n : Nat) (s : State) :
    (setWtx n s).top = s.top := rfl
@[simp] theorem setWtx_status (n : Nat) (s : State) :
    (setWtx n s).status = s.status := rfl
@[simp] theorem setWtx_cause (n : Nat) (s : State) :
    (setWtx n s).cause = s.cause := rfl
@[simp] theorem setWtx_variant (n : Nat) (s : State) :
    (setWtx n s).variant = s.variant := rfl
@[simp] theorem setWtx_epsel (n : Nat) (s : State) :
    (setWtx n s).epsel = s.epsel := rfl
@[simp] theorem setWtx_ntx (n : Nat) (s : State) :
    (setWtx n s).ntx = s.ntx := rfl
@[simp] theorem setWtx_ltx (n : Nat) (s : State) :
    (setWtx n s).ltx = s.ltx := rfl
@[simp] theorem setWtx_rxc (n : Nat) (s : State) :
    (setWtx n s).rxc = s.rxc := rfl
@[simp] theorem setWtx_sv (n : Nat) (s : State) :
    (setWtx n s).sv = { s.sv with wtxCounter := n } := rfl
@[simp] theorem setWtx_rlist (n : Nat) (s : State) :
    (setWtx n s).rlist = s.rlist := rfl
@[simp] theorem setWtx_epEse (n : Nat) (s : State) :
    (setWtx n s).epEse = s.epEse := rfl
@[simp] theorem setWtx_epEuicc (n : Nat) (s : State) :
    (setWtx n s).epEuicc = s.epEuicc := rfl
@[simp] theorem setWtx_txf (n : Nat) (s : State) :
    (setWtx n s).txf = s.txf := rfl
@[simp] theorem setWtx_rxf (n : Nat) (s : State) :
    (setWtx n s).rxf = s.rxf := rfl
@[simp] theorem setWtx_mem (n : Nat) (s : State) :
    (setWtx n s).mem = s.mem := rfl
@[simp] theorem setWtx_ctl (n : Nat) (s : State) :
    (setWtx n s).ctl = s.ctl := rfl
@[simp] theorem setWtx_ret (n : Nat) (s : State) :
    (setWtx n s).ret = s.ret := rfl
@[simp] theorem setWtx_trace (n : Nat) (s : State) :
    (setWtx n s).trace = s.trace := rfl
@[simp] theorem setWtx_sendScript (n : Nat) (s : State) :
    (setWtx n s).sendScript = s.sendScript := rfl
@[simp] theorem setWtx_recvScript (n : Nat) (s : State) :
    (setWtx n s).recvScript = s.recvScript := rfl
@[simp] theorem setWtx_hostIn (n : Nat) (s : State) :
    (setWtx n s).hostIn = s.hostIn := rfl
@[simp] theorem setWtx_tick (n : Nat) (s : State) :
    (setWtx n s).tick = s.tick := rfl

/-! ### `setRecovery` -/

@[simp] theorem setRecovery_cfg (n : Nat) (s : State) :
    (setRecovery n s).cfg = s.cfg := rfl
@[simp] theorem setRecovery_pstate (n : Nat) (s : State) :
    (setRecovery n s).pstate = s.pstate := rfl
@[simp] theorem setRecovery_top (n : Nat) (s : State) :
    (setRecovery n s).top = s.top := rfl
@[simp] theorem setRecovery_status (n : Nat) (s : State) :
    (setRecovery n s).status = s.status := rfl
@[simp] theorem setRecovery_cause (n : Nat) (s : State) :
    (setRecovery n s).cause = s.cause := rfl
@[simp] theorem setRecovery_variant (n : Nat) (s : State) :
    (setRecovery n s).variant = s.variant := rfl
@[simp] theorem setRecovery_epsel (n : Nat) (s : State) :
    (setRecovery n s).epsel = s.epsel := rfl
@[simp] theorem setRecovery_ntx (n : Nat) (s : State) :
    (setRecovery n s).ntx = s.ntx := rfl
@[simp] theorem setRecovery_ltx (n : Nat) (s : State) :
    (setRecovery n s).ltx = s.ltx := rfl
@[simp] theorem setRecovery_rxc (n : Nat) (s : State) :
    (setRecovery n s).rxc = s.rxc := rfl
@[simp] theorem setRecovery_sv (n : Nat) (s : State) :
    (setRecovery n s).sv = { s.sv with recoveryCounter := n } := rfl
@[simp] theorem setRecovery_rlist (n : Nat) (s : State) :
    (setRecovery n s).rlist = s.rlist := rfl
@[simp] theorem setRecovery_epEse (n : Nat) (s : State) :
    (setRecovery n s).epEse = s.epEse := rfl
@[simp] theorem setRecovery_epEuicc (n : Nat) (s : State) :
    (setRecovery n s).epEuicc = s.epEuicc := rfl
@[simp] theorem setRecovery_txf (n : Nat) (s : State) :
    (setRecovery n s).txf = s.txf := rfl
@[simp] theorem setRecovery_rxf (n : Nat) (s : State) :
    (setRecovery n s).rxf = s.rxf := rfl
@[simp] theorem setRecovery_mem (n : Nat) (s : State) :
    (setRecovery n s).mem = s.mem := rfl
@[simp] theorem setRecovery_ctl (n : Nat) (s : State) :
    (setRecovery n s).ctl = s.ctl := rfl
@[simp] theorem setRecovery_ret (n : Nat) (s : State) :
    (setRecovery n s).ret = s.ret := rfl
@[simp] theorem setRecovery_trace (n : Nat) (s : State) :
    (setRecovery n s).trace = s.trace := rfl
@[simp] theorem setRecovery_sendScript (n : Nat) (s : State) :
    (setRecovery n s).sendScript = s.sendScript := rfl
@[simp] theorem setRecovery_recvScript (n : Nat) (s : State) :
    (setRecovery n s).recvScript = s.recvScript := rfl
@[simp] theorem setRecovery_hostIn (n : Nat) (s : State) :
    (setRecovery n s).hostIn = s.hostIn := rfl
@[simp] theorem setRecovery_tick (n : Nat) (s : State) :
    (setRecovery n s).tick = s.tick := rfl

/-! ### `note` -/

@[simp] theorem note_cfg (e : ChEvent) (s : State) :
    (note e s).cfg = s.cfg := rfl
@[simp] theorem note_pstate (e : ChEvent) (s : State) :
    (note e s).pstate = s.pstate := rfl
@[simp] theorem note_top (e : ChEvent) (s : State) :
    (note e s).top = s.top := rfl
@[simp] theorem note_status (e : ChEvent) (s : State) :
    (note e s).status = s.status := rfl
@[simp] theorem note_cause (e : ChEvent) (s : State) :
    (note e s).cause = s.cause := rfl
@[simp] theorem note_variant (e : ChEvent) (s : State) :
    (note e s).variant = s.variant := rfl
@[simp] theorem note_epsel (e : ChEvent) (s : State) :
    (note e s).epsel = s.epsel := rfl
@[simp] theorem note_ntx (e : ChEvent) (s : State) :
    (note e s).ntx = s.ntx := rfl
@[simp] theorem note_ltx (e : ChEvent) (s : State) :
    (note e s).ltx = s.ltx := rfl
@[simp] theorem note_rxc (e : ChEvent) (s : State) :
    (note e s).rxc = s.rxc := rfl
@[simp] theorem note_sv (e : ChEvent) (s : State) :
    (note e s).sv = s.sv := rfl
@[simp] theorem note_rlist (e : ChEvent) (s : State) :
    (note e s).rlist = s.rlist := rfl
@[simp] theorem note_epEse (e : ChEvent) (s : State) :
    (note e s).epEse = s.epEse := rfl
@[simp] theorem note_epEuicc (e : ChEvent) (s : State) :
    (note e s).epEuicc = s.epEuicc := rfl
@[simp] theorem note_txf (e : ChEvent) (s : State) :
    (note e s).txf = s.txf := rfl
@[simp] theorem note_rxf (e : ChEvent) (s : State) :
    (note e s).rxf = s.rxf := rfl
@[simp] theorem note_mem (e : ChEvent) (s : State) :
    (note e s).mem = s.mem := rfl
@[simp] theorem note_ctl (e : ChEvent) (s : State) :
    (note e s).ctl = s.ctl := rfl
@[simp] theorem note_ret (e : ChEvent) (s : State) :
    (note e s).ret = s.ret := rfl
@[simp] theorem note_trace (e : ChEvent) (s : State) :
    (note e s).trace = e :: s.trace := rfl
@[simp] theorem note_sendScript (e : ChEvent) (s : State) :
    (note e s).sendScript = s.sendScript := rfl
@[simp] theorem note_recvScript (e : ChEvent) (s : State) :
    (note e s).recvScript = s.recvScript := rfl
@[simp] theorem note_hostIn (e : ChEvent) (s : State) :
    (note e s).hostIn = s.hostIn := rfl
@[simp] theorem note_tick (e : ChEvent) (s : State) :
    (note e s).tick = s.tick := rfl

/-! ### `setRet` -/

@[simp] theorem setRet_cfg (r : Ret) (s : State) :
    (setRet r s).cfg = s.cfg := rfl
@[simp] theorem setRet_pstate (r : Ret) (s : State) :
    (setRet r s).pstate = s.pstate := rfl
@[simp] theorem setRet_top (r : Ret) (s : State) :
    (setRet r s).top = s.top := rfl
@[simp] theorem setRet_status (r : Ret) (s : State) :
    (setRet r s).status = s.status := rfl
@[simp] theorem setRet_cause (r : Ret) (s : State) :
    (setRet r s).cause = s.cause := rfl
@[simp] theorem setRet_variant (r : Ret) (s : State) :
    (setRet r s).variant = s.variant := rfl
@[simp] theorem setRet_epsel (r : Ret) (s : State) :
    (setRet r s).epsel = s.epsel := rfl
@[simp] theorem setRet_ntx (r : Ret) (s : State) :
    (setRet r s).ntx = s.ntx := rfl
@[simp] theorem setRet_ltx (r : Ret) (s : State) :
    (setRet r s).ltx = s.ltx := rfl
@[simp] theorem setRet_rxc (r : Ret) (s : State) :
    (setRet r s).rxc = s.rxc := rfl
@[simp] theorem setRet_sv (r : Ret) (s : State) :
    (setRet r s).sv = s.sv := rfl
@[simp] theorem setRet_rlist (r : Ret) (s : State) :
    (setRet r s).rlist = s.rlist := rfl
@[simp] theorem setRet_epEse (r : Ret) (s : State) :
    (setRet r s).epEse = s.epEse := rfl
@[simp] theorem setRet_epEuicc (r : Ret) (s : State) :
    (setRet r s).epEuicc = s.epEuicc := rfl
@[simp] theorem setRet_txf (r : Ret) (s : State) :
    (setRet r s).txf = s.txf := rfl
@[simp] theorem setRet_rxf (r : Ret) (s : State) :
    (setRet r s).rxf = s.rxf := rfl
@[simp] theorem setRet_mem (r : Ret) (s : State) :
    (setRet r s).mem = s.mem := rfl
@[simp] theorem setRet_ctl (r : Ret) (s : State) :
    (setRet r s).ctl = s.ctl := rfl
@[simp] theorem setRet_ret (r : Ret) (s : State) :
    (setRet r s).ret = r := rfl
@[simp] theorem setRet_trace (r : Ret) (s : State) :
    (setRet r s).trace = s.trace := rfl
@[simp] theorem setRet_sendScript (r : Ret) (s : State) :
    (setRet r s).sendScript = s.sendScript := rfl
@[simp] theorem setRet_recvScript (r : Ret) (s : State) :
    (setRet r s).recvScript = s.recvScript := rfl
@[simp] theorem setRet_hostIn (r : Ret) (s : State) :
    (setRet r s).hostIn = s.hostIn := rfl
@[simp] theorem setRet_tick (r : Ret) (s : State) :
    (setRet r s).tick = s.tick := rfl

/-! ### `raise` -/

@[simp] theorem raise_cfg (e : HostError) (s : State) :
    (raise e s).cfg = s.cfg := rfl
@[simp] theorem raise_pstate (e : HostError) (s : State) :
    (raise e s).pstate = s.pstate := rfl
@[simp] theorem raise_top (e : HostError) (s : State) :
    (raise e s).top = s.top := rfl
@[simp] theorem raise_status (e : HostError) (s : State) :
    (raise e s).status = s.status := rfl
@[simp] theorem raise_cause (e : HostError) (s : State) :
    (raise e s).cause = s.cause := rfl
@[simp] theorem raise_variant (e : HostError) (s : State) :
    (raise e s).variant = s.variant := rfl
@[simp] theorem raise_epsel (e : HostError) (s : State) :
    (raise e s).epsel = s.epsel := rfl
@[simp] theorem raise_ntx (e : HostError) (s : State) :
    (raise e s).ntx = s.ntx := rfl
@[simp] theorem raise_ltx (e : HostError) (s : State) :
    (raise e s).ltx = s.ltx := rfl
@[simp] theorem raise_rxc (e : HostError) (s : State) :
    (raise e s).rxc = s.rxc := rfl
@[simp] theorem raise_sv (e : HostError) (s : State) :
    (raise e s).sv = s.sv := rfl
@[simp] theorem raise_rlist (e : HostError) (s : State) :
    (raise e s).rlist = s.rlist := rfl
@[simp] theorem raise_epEse (e : HostError) (s : State) :
    (raise e s).epEse = s.epEse := rfl
@[simp] theorem raise_epEuicc (e : HostError) (s : State) :
    (raise e s).epEuicc = s.epEuicc := rfl
@[simp] theorem raise_txf (e : HostError) (s : State) :
    (raise e s).txf = s.txf := rfl
@[simp] theorem raise_rxf (e : HostError) (s : State) :
    (raise e s).rxf = s.rxf := rfl
@[simp] theorem raise_mem (e : HostError) (s : State) :
    (raise e s).mem = s.mem := rfl
@[simp] theorem raise_ctl (e : HostError) (s : State) :
    (raise e s).ctl = s.ctl := rfl
@[simp] theorem raise_ret (e : HostError) (s : State) :
    (raise e s).ret = .err e := rfl
@[simp] theorem raise_trace (e : HostError) (s : State) :
    (raise e s).trace = s.trace := rfl
@[simp] theorem raise_sendScript (e : HostError) (s : State) :
    (raise e s).sendScript = s.sendScript := rfl
@[simp] theorem raise_recvScript (e : HostError) (s : State) :
    (raise e s).recvScript = s.recvScript := rfl
@[simp] theorem raise_hostIn (e : HostError) (s : State) :
    (raise e s).hostIn = s.hostIn := rfl
@[simp] theorem raise_tick (e : HostError) (s : State) :
    (raise e s).tick = s.tick := rfl

/-! ### `loadIframe` -/

@[simp] theorem loadIframe_cfg (buf : Option BufRef) (n : Nat) (s : State) :
    (loadIframe buf n s).cfg = s.cfg := rfl
@[simp] theorem loadIframe_pstate (buf : Option BufRef) (n : Nat) (s : State) :
    (loadIframe buf n s).pstate = .sendIframe := rfl
@[simp] theorem loadIframe_top (buf : Option BufRef) (n : Nat) (s : State) :
    (loadIframe buf n s).top = s.top := rfl
@[simp] theorem loadIframe_status (buf : Option BufRef) (n : Nat) (s : State) :
    (loadIframe buf n s).status = s.status := rfl
@[simp] theorem loadIframe_cause (buf : Option BufRef) (n : Nat) (s : State) :
    (loadIframe buf n s).cause = s.cause := rfl
@[simp] theorem loadIframe_variant (buf : Option BufRef) (n : Nat) (s : State) :
    (loadIframe buf n s).variant = s.variant := rfl
@[simp] theorem loadIframe_epsel (buf : Option BufRef) (n : Nat) (s : State) :
    (loadIframe buf n s).epsel = s.epsel := rfl
@[simp] theorem loadIframe_ltx (buf : Option BufRef) (n : Nat) (s : State) :
    (loadIframe buf n s).ltx = s.ltx := rfl
@[simp] theorem loadIframe_rxc (buf : Option BufRef) (n : Nat) (s : State) :
    (loadIframe buf n s).rxc = s.rxc := rfl
@[simp] theorem loadIframe_sv (buf : Option BufRef) (n : Nat) (s : State) :
    (loadIframe buf n s).sv = s.sv := rfl
@[simp] theorem loadIframe_rlist (buf : Option BufRef) (n : Nat) (s : State) :
    (loadIframe buf n s).rlist = [] := rfl
@[simp] theorem loadIframe_epEse (buf : Option BufRef) (n : Nat) (s : State) :
    (loadIframe buf n s).epEse = s.epEse := rfl
@[simp] theorem loadIframe_epEuicc (buf : Option BufRef) (n : Nat) (s : State) :
    (loadIframe buf n s).epEuicc = s.epEuicc := rfl
@[simp] theorem loadIframe_txf (buf : Option BufRef) (n : Nat) (s : State) :
    (loadIframe buf n s).txf = s.txf := rfl
@[simp] theorem loadIframe_rxf (buf : Option BufRef) (n : Nat) (s : State) :
    (loadIframe buf n s).rxf = s.rxf := rfl
@[simp] theorem loadIframe_mem (buf : Option BufRef) (n : Nat) (s : State) :
    (loadIframe buf n s).mem = s.mem := rfl
@[simp] theorem loadIframe_ctl (buf : Option BufRef) (n : Nat) (s : State) :
    (loadIframe buf n s).ctl = s.ctl := rfl
@[simp] theorem loadIframe_ret (buf : Option BufRef) (n : Nat) (s : State) :
    (loadIframe buf n s).ret = s.ret := rfl
@[simp] theorem loadIframe_trace (buf : Option BufRef) (n : Nat) (s : State) :
    (loadIframe buf n s).trace = s.trace := rfl
@[simp] theorem loadIframe_sendScript (buf : Option BufRef) (n : Nat) (s : State) :
    (loadIframe buf n s).sendScript = s.sendScript := rfl
@[simp] theorem loadIframe_recvScript (buf : Option BufRef) (n : Nat) (s : State) :
    (loadIframe buf n s).recvScript = s.recvScript := rfl
@[simp] theorem loadIframe_hostIn (buf : Option BufRef) (n : Nat) (s : State) :
    (loadIframe buf n s).hostIn = s.hostIn := rfl
@[simp] theorem loadIframe_tick (buf : Option BufRef) (n : Nat) (s : State) :
    (loadIframe buf n s).tick = s.tick := rfl

/-! ### `loadLock` -/

@[simp] theorem loadLock_cfg (s : State) :
    (loadLock s).cfg = s.cfg := rfl
@[simp] theorem loadLock_pstate (s : State) :
    (loadLock s).pstate = .sendLockAcquire := rfl
@[simp] theorem loadLock_top (s : State) :
    (loadLock s).top = s.top := rfl
@[simp] theorem loadLock_status (s : State) :
    (loadLock s).status = s.status := rfl
@[simp] theorem loadLock_cause (s : State) :
    (loadLock s).cause = s.cause := rfl
@[simp] theorem loadLock_variant (s : State) :
    (loadLock s).variant = s.variant := rfl
@[simp] theorem loadLock_epsel (s : State) :
    (loadLock s).epsel = s.epsel := rfl
@[simp] theorem loadLock_ltx (s : State) :
    (loadLock s).ltx = s.ltx := rfl
@[simp] theorem loadLock_rxc (s : State) :
    (loadLock s).rxc = s.rxc := rfl
@[simp] theorem loadLock_sv (s : State) :
    (loadLock s).sv = s.sv := rfl
@[simp] theorem loadLock_rlist (s : State) :
    (loadLock s).rlist = [] := rfl
@[simp] theorem loadLock_epEse (s : State) :
    (loadLock s).epEse = s.epEse := rfl
@[simp] theorem loadLock_epEuicc (s : State) :
    (loadLock s).epEuicc = s.epEuicc := rfl
@[simp] theorem loadLock_txf (s : State) :
    (loadLock s).txf = s.txf := rfl
@[simp] theorem loadLock_rxf (s : State) :
    (loadLock s).rxf = s.rxf := rfl
@[simp] theorem loadLock_mem (s : State) :
    (loadLock s).mem = s.mem := rfl
@[simp] theorem loadLock_ctl (s : State) :
    (loadLock s).ctl = s.ctl := rfl
@[simp] theorem loadLock_ret (s : State) :
    (loadLock s).ret = s.ret := rfl
@[simp] theorem loadLock_trace (s : State) :
    (loadLock s).trace = s.trace := rfl
@[simp] theorem loadLock_sendScript (s : State) :
    (loadLock s).sendScript = s.sendScript := rfl
@[simp] theorem loadLock_recvScript (s : State) :
    (loadLock s).recvScript = s.recvScript := rfl
@[simp] theorem loadLock_hostIn (s : State) :
    (loadLock s).hostIn = s.hostIn := rfl
@[simp] theorem loadLock_tick (s : State) :
    (loadLock s).tick = s.tick := rfl

/-! ### `loadSframe` -/

@[simp] theorem loadSframe_cfg (n : SName) (p : Bytes) (ps : PState) (s : State) :
    (loadSframe n p ps s).cfg = s.cfg := rfl
@[simp] theorem loadSframe_pstate (n : SName) (p : Bytes) (ps : PState) (s : State) :
    (loadSframe n p ps s).pstate = ps := rfl
@[simp] theorem loadSframe_top (n : SName) (p : Bytes) (ps : PState) (s : State) :
    (loadSframe n p ps s).top = s.top := rfl
@[simp] theorem loadSframe_status (n : SName) (p : Bytes) (ps : PState) (s : State) :
    (loadSframe n p ps s).status = s.status := rfl
@[simp] theorem loadSframe_cause (n : SName) (p : Bytes) (ps : PState) (s : State) :
    (loadSframe n p ps s).cause = s.cause := rfl
@[simp] theorem loadSframe_variant (n : SName) (p : Bytes) (ps : PState) (s : State) :
    (loadSframe n p ps s).variant = s.variant := rfl
@[simp] theorem loadSframe_epsel (n : SName) (p : Bytes) (ps : PState) (s : State) :
    (loadSframe n p ps s).epsel = s.epsel := rfl
@[simp] theorem loadSframe_ntx (n : SName) (p : Bytes) (ps : PState) (s : State) :
    (loadSframe n p ps s).ntx = { s.ntx with ftype := .s, s := { subtype := .named n, payload := p } } := rfl
@[simp] theorem loadSframe_ltx (n : SName) (p : Bytes) (ps : PState) (s : State) :
    (loadSframe n p ps s).ltx = s.ltx := rfl
@[simp] theorem loadSframe_rxc (n : SName) (p : Bytes) (ps : PState) (s : State) :
    (loadSframe n p ps s).rxc = s.rxc := rfl
@[simp] theorem loadSframe_sv (n : SName) (p : Bytes) (ps : PState) (s : State) :
    (loadSframe n p ps s).sv = s.sv := rfl
@[simp] theorem loadSframe_rlist (n : SName) (p : Bytes) (ps : PState) (s : State) :
    (loadSframe n p ps s).rlist = s.rlist := rfl
@[simp] theorem loadSframe_epEse (n : SName) (p : Bytes) (ps : PState) (s : State) :
    (loadSframe n p ps s).epEse = s.epEse := rfl
@[simp] theorem loadSframe_epEuicc (n : SName) (p : Bytes) (ps : PState) (s : State) :
    (loadSframe n p ps s).epEuicc = s.epEuicc := rfl
@[simp] theorem loadSframe_txf (n : SName) (p : Bytes) (ps : PState) (s : State) :
    (loadSframe n p ps s).txf = s.txf := rfl
@[simp] theorem loadSframe_rxf (n : SName) (p : Bytes) (ps : PState) (s : State) :
    (loadSframe n p ps s).rxf = s.rxf := rfl
@[simp] theorem loadSframe_mem (n : SName) (p : Bytes) (ps : PState) (s : State) :
    (loadSframe n p ps s).mem = s.mem := rfl
@[simp] theorem loadSframe_ctl (n : SName) (p : Bytes) (ps : PState) (s : State) :
    (loadSframe n p ps s).ctl = s.ctl := rfl
@[simp] theorem loadSframe_ret (n : SName) (p : Bytes) (ps : PState) (s : State) :
    (loadSframe n p ps s).ret = s.ret := rfl
@[simp] theorem loadSframe_trace (n : SName) (p : Bytes) (ps : PState) (s : State) :
    (loadSframe n p ps s).trace = s.trace := rfl
@[simp] theorem loadSframe_sendScript (n : SName) (p : Bytes) (ps : PState) (s : State) :
    (loadSframe n p ps s).sendScript = s.sendScript := rfl
@[simp] theorem loadSframe_recvScript (n : SName) (p : Bytes) (ps : PState) (s : State) :
    (loadSframe n p ps s).recvScript = s.recvScript := rfl
@[simp] theorem loadSframe_hostIn (n : SName) (p : Bytes) (ps : PState) (s : State) :
    (loadSframe n p ps s).hostIn = s.hostIn := rfl
@[simp] theorem loadSframe_tick (n : SName) (p : Bytes) (ps : PState) (s : State) :
    (loadSframe n p ps s).tick = s.tick := rfl

/-! ### `loadRframe` -/

@[simp] theorem loadRframe_cfg (k : AckKind) (e : ErrClass) (s : State) :
    (loadRframe k e s).cfg = s.cfg := rfl
@[simp] theorem loadRframe_pstate (k : AckKind) (e : ErrClass) (s : State) :
    (loadRframe k e s).pstate = (match k with | .ack => .sendRAck | .nack => .sendRNack) := rfl
@[simp] theorem loadRframe_top (k : AckKind) (e : ErrClass) (s : State) :
    (loadRframe k e s).top = s.top := rfl
@[simp] theorem loadRframe_status (k : AckKind) (e : ErrClass) (s : State) :
    (loadRframe k e s).status = s.status := rfl
@[simp] theorem loadRframe_cause (k : AckKind) (e : ErrClass) (s : State) :
    (loadRframe k e s).cause = s.cause := rfl
@[simp] theorem loadRframe_variant (k : AckKind) (e : ErrClass) (s : State) :
    (loadRframe k e s).variant = s.variant := rfl
@[simp] theorem loadRframe_epsel (k : AckKind) (e : ErrClass) (s : State) :
    (loadRframe k e s).epsel = s.epsel := rfl
@[simp] theorem loadRframe_ntx (k : AckKind) (e : ErrClass) (s : State) :
    (loadRframe k e s).ntx = { s.ntx with ftype := .r, r := { kind := k, err := e, seq := !s.rxc.iSeq } } := rfl
@[simp] theorem loadRframe_ltx (k : AckKind) (e : ErrClass) (s : State) :
    (loadRframe k e s).ltx = s.ltx := rfl
@[simp] theorem loadRframe_rxc (k : AckKind) (e : ErrClass) (s : State) :
    (loadRframe k e s).rxc = s.rxc := rfl
@[simp] theorem loadRframe_sv (k : AckKind) (e : ErrClass) (s : State) :
    (loadRframe k e s).sv = s.sv := rfl
@[simp] theorem loadRframe_rlist (k : AckKind) (e : ErrClass) (s : State) :
    (loadRframe k e s).rlist = s.rlist := rfl
@[simp] theorem loadRframe_epEse (k : AckKind) (e : ErrClass) (s : State) :
    (loadRframe k e s).epEse = s.epEse := rfl
@[simp] theorem loadRframe_epEuicc (k : AckKind) (e : ErrClass) (s : State) :
    (loadRframe k e s).epEuicc = s.epEuicc := rfl
@[simp] theorem loadRframe_txf (k : AckKind) (e : ErrClass) (s : State) :
    (loadRframe k e s).txf = s.txf := rfl
@[simp] theorem loadRframe_rxf (k : AckKind) (e : ErrClass) (s : State) :
    (loadRframe k e s).rxf = s.rxf := rfl
@[simp] theorem loadRframe_mem (k : AckKind) (e : ErrClass) (s : State) :
    (loadRframe k e s).mem = s.mem := rfl
@[simp] theorem loadRframe_ctl (k : AckKind) (e : ErrClass) (s : State) :
    (loadRframe k e s).ctl = s.ctl := rfl
@[simp] theorem loadRframe_ret (k : AckKind) (e : ErrClass) (s : State) :
    (loadRframe k e s).ret = s.ret := rfl
@[simp] theorem loadRframe_trace (k : AckKind) (e : ErrClass) (s : State) :
    (loadRframe k e s).trace = s.trace := rfl
@[simp] theorem loadRframe_sendScript (k : AckKind) (e : ErrClass) (s : State) :
    (loadRframe k e s).sendScript = s.sendScript := rfl
@[simp] theorem loadRframe_recvScript (k : AckKind) (e : ErrClass) (s : State) :
    (loadRframe k e s).recvScript = s.recvScript := rfl
@[simp] theorem loadRframe_hostIn (k : AckKind) (e : ErrClass) (s : State) :
    (loadRframe k e s).hostIn = s.hostIn := rfl
@[simp] theorem loadRframe_tick (k : AckKind) (e : ErrClass) (s : State) :
    (loadRframe k e s).tick = s.tick := rfl

/-! ### `writeIfs` -/

@[simp] theorem writeIfs_cfg (v : Nat) (s : State) :
    (writeIfs v s).cfg = s.cfg := rfl
@[simp] theorem writeIfs_pstate (v : Nat) (s : State) :
    (writeIfs v s).pstate = s.pstate := rfl
@[simp] theorem writeIfs_top (v : Nat) (s : State) :
    (writeIfs v s).top = s.top := rfl
@[simp] theorem writeIfs_status (v : Nat) (s : State) :
    (writeIfs v s).status = s.status := rfl
@[simp] theorem writeIfs_cause (v : Nat) (s : State) :
    (writeIfs v s).cause = s.cause := rfl
@[simp] theorem writeIfs_variant (v : Nat) (s : State) :
    (writeIfs v s).variant = s.variant := rfl
@[simp] theorem writeIfs_epsel (v : Nat) (s : State) :
    (writeIfs v s).epsel = s.epsel := rfl
@[simp] theorem writeIfs_ntx (v : Nat) (s : State) :
    (writeIfs v s).ntx = { s.ntx with i := { s.ntx.i with maxLen := v } } := rfl
@[simp] theorem writeIfs_ltx (v : Nat) (s : State) :
    (writeIfs v s).ltx = s.ltx := rfl
@[simp] theorem writeIfs_rxc (v : Nat) (s : State) :
    (writeIfs v s).rxc = s.rxc := rfl
@[simp] theorem writeIfs_sv (v : Nat) (s : State) :
    (writeIfs v s).sv = { s.sv with ifsCurrent := v } := rfl
@[simp] theorem writeIfs_rlist (v : Nat) (s : State) :
    (writeIfs v s).rlist = s.rlist := rfl
@[simp] theorem writeIfs_epEse (v : Nat) (s : State) :
    (writeIfs v s).epEse = s.epEse := rfl
@[simp] theorem writeIfs_epEuicc (v : Nat) (s : State) :
    (writeIfs v s).epEuicc = s.epEuicc := rfl
@[simp] theorem writeIfs_txf (v : Nat) (s : State) :
    (writeIfs v s).txf = s.txf := rfl
@[simp] theorem writeIfs_rxf (v : Nat) (s : State) :
    (writeIfs v s).rxf = s.rxf := rfl
@[simp] theorem writeIfs_mem (v : Nat) (s : State) :
    (writeIfs v s).mem = s.mem := rfl
@[simp] theorem writeIfs_ctl (v : Nat) (s : State) :
    (writeIfs v s).ctl = s.ctl := rfl
@[simp] theorem writeIfs_ret (v : Nat) (s : State) :
    (writeIfs v s).ret = s.ret := rfl
@[simp] theorem writeIfs_trace (v : Nat) (s : State) :
    (writeIfs v s).trace = s.trace := rfl
@[simp] theorem writeIfs_sendScript (v : Nat) (s : State) :
    (writeIfs v s).sendScript = s.sendScript := rfl
@[simp] theorem writeIfs_recvScript (v : Nat) (s : State) :
    (writeIfs v s).recvScript = s.recvScript := rfl
@[simp] theorem writeIfs_hostIn (v : Nat) (s : State) :
    (writeIfs v s).hostIn = s.hostIn := rfl
@[simp] theorem writeIfs_tick (v : Nat) (s : State) :
    (writeIfs v s).tick = s.tick := rfl

/-! ### `releaseBuffer` -/

@[simp] theorem releaseBuffer_cfg (s : State) :
    (releaseBuffer s).cfg = s.cfg := rfl
@[simp] theorem releaseBuffer_pstate (s : State) :
    (releaseBuffer s).pstate = s.pstate := rfl
@[simp] theorem releaseBuffer_top (s : State) :
    (releaseBuffer s).top = s.top := rfl
@[simp] theorem releaseBuffer_status (s : State) :
    (releaseBuffer s).status = s.status := rfl
@[simp] theorem releaseBuffer_cause (s : State) :
    (releaseBuffer s).cause = s.cause := rfl
@[simp] theorem releaseBuffer_variant (s : State) :
    (releaseBuffer s).variant = s.variant := rfl
@[simp] theorem releaseBuffer_epsel (s : State) :
    (releaseBuffer s).epsel = s.epsel := rfl
@[simp] theorem releaseBuffer_ntx (s : State) :
    (releaseBuffer s).ntx = dropBuffer s.ntx := rfl
@[simp] theorem releaseBuffer_ltx (s : State) :
    (releaseBuffer s).ltx = dropBuffer s.ltx := rfl
@[simp] theorem releaseBuffer_rxc (s : State) :
    (releaseBuffer s).rxc = s.rxc := rfl
@[simp] theorem releaseBuffer_sv (s : State) :
    (releaseBuffer s).sv = s.sv := rfl
@[simp] theorem releaseBuffer_rlist (s : State) :
    (releaseBuffer s).rlist = s.rlist := rfl
@[simp] theorem releaseBuffer_epEse (s : State) :
    (releaseBuffer s).epEse = s.epEse := rfl
@[simp] theorem releaseBuffer_epEuicc (s : State) :
    (releaseBuffer s).epEuicc = s.epEuicc := rfl
@[simp] theorem releaseBuffer_txf (s : State) :
    (releaseBuffer s).txf = s.txf := rfl
@[simp] theorem releaseBuffer_rxf (s : State) :
    (releaseBuffer s).rxf = s.rxf := rfl
@[simp] theorem releaseBuffer_mem (s : State) :
    (releaseBuffer s).mem = s.mem := rfl
@[simp] theorem releaseBuffer_ctl (s : State) :
    (releaseBuffer s).ctl = s.ctl := rfl
@[simp] theorem releaseBuffer_ret (s : State) :
    (releaseBuffer s).ret = s.ret := rfl
@[simp] theorem releaseBuffer_trace (s : State) :
    (releaseBuffer s).trace = s.trace := rfl
@[simp] theorem releaseBuffer_sendScript (s : State) :
    (releaseBuffer s).sendScript = s.sendScript := rfl
@[simp] theorem releaseBuffer_recvScript (s : State) :
    (releaseBuffer s).recvScript = s.recvScript := rfl
@[simp] theorem releaseBuffer_hostIn (s : State) :
    (releaseBuffer s).hostIn = s.hostIn := rfl
@[simp] theorem releaseBuffer_tick (s : State) :
    (releaseBuffer s).tick = s.tick := rfl

/-! ### `resetParams` -/

@[simp] theorem resetParams_cfg (s : State) :
    (resetParams s).cfg = s.cfg := rfl
@[simp] theorem resetParams_pstate (s : State) :
    (resetParams s).pstate = .idle := rfl
@[simp] theorem resetParams_top (s : State) :
    (resetParams s).top = s.top := rfl
@[simp] theorem resetParams_status (s : State) :
    (resetParams s).status = .ok := rfl
@[simp] theorem resetParams_cause (s : State) :
    (resetParams s).cause = .none := rfl
@[simp] theorem resetParams_variant (s : State) :
    (resetParams s).variant = s.variant := rfl
@[simp] theorem resetParams_epsel (s : State) :
    (resetParams s).epsel = s.epsel := rfl
@[simp] theorem resetParams_ntx (s : State) :
    (resetParams s).ntx = initialTx s.cfg := rfl
@[simp] theorem resetParams_ltx (s : State) :
    (resetParams s).ltx = initialTx s.cfg := rfl
@[simp] theorem resetParams_rxc (s : State) :
    (resetParams s).rxc = initialRx := rfl
@[simp] theorem resetParams_sv (s : State) :
    (resetParams s).sv = initialSv s.cfg := rfl
@[simp] theorem resetParams_rlist (s : State) :
    (resetParams s).rlist = [] := rfl
@[simp] theorem resetParams_epEse (s : State) :
    (resetParams s).epEse = s.epEse := rfl
@[simp] theorem resetParams_epEuicc (s : State) :
    (resetParams s).epEuicc = s.epEuicc := rfl
@[simp] theorem resetParams_txf (s : State) :
    (resetParams s).txf = s.txf := rfl
@[simp] theorem resetParams_rxf (s : State) :
    (resetParams s).rxf = s.rxf := rfl
@[simp] theorem resetParams_mem (s : State) :
    (resetParams s).mem = s.mem := rfl
@[simp] theorem resetParams_ctl (s : State) :
    (resetParams s).ctl = s.ctl := rfl
@[simp] theorem resetParams_ret (s : State) :
    (resetParams s).ret = s.ret := rfl
@[simp] theorem resetParams_trace (s : State) :
    (resetParams s).trace = s.trace := rfl
@[simp] theorem resetParams_sendScript (s : State) :
    (resetParams s).sendScript = s.sendScript := rfl
@[simp] theorem resetParams_recvScript (s : State) :
    (resetParams s).recvScript = s.recvScript := rfl
@[simp] theorem resetParams_hostIn (s : State) :
    (resetParams s).hostIn = s.hostIn := rfl
@[simp] theorem resetParams_tick (s : State) :
    (resetParams s).tick = s.tick := rfl

/-! ### `beginRun` -/

@[simp] theorem beginRun_cfg (k : Cont) (s : State) :
    (beginRun k s).cfg = s.cfg := rfl
@[simp] theorem beginRun_pstate (k : Cont) (s : State) :
    (beginRun k s).pstate = s.pstate := rfl
@[simp] theorem beginRun_top (k : Cont) (s : State) :
    (beginRun k s).top = s.top := rfl
@[simp] theorem beginRun_status (k : Cont) (s : State) :
    (beginRun k s).status = .ok := rfl
@[simp] theorem beginRun_cause (k : Cont) (s : State) :
    (beginRun k s).cause = .none := rfl
@[simp] theorem beginRun_variant (k : Cont) (s : State) :
    (beginRun k s).variant = s.variant := rfl
@[simp] theorem beginRun_epsel (k : Cont) (s : State) :
    (beginRun k s).epsel = s.epsel := rfl
@[simp] theorem beginRun_ntx (k : Cont) (s : State) :
    (beginRun k s).ntx = s.ntx := rfl
@[simp] theorem beginRun_ltx (k : Cont) (s : State) :
    (beginRun k s).ltx = s.ltx := rfl
@[simp] theorem beginRun_rxc (k : Cont) (s : State) :
    (beginRun k s).rxc = s.rxc := rfl
@[simp] theorem beginRun_sv (k : Cont) (s : State) :
    (beginRun k s).sv = s.sv := rfl
@[simp] theorem beginRun_rlist (k : Cont) (s : State) :
    (beginRun k s).rlist = s.rlist := rfl
@[simp] theorem beginRun_epEse (k : Cont) (s : State) :
    (beginRun k s).epEse = s.epEse := rfl
@[simp] theorem beginRun_epEuicc (k : Cont) (s : State) :
    (beginRun k s).epEuicc = s.epEuicc := rfl
@[simp] theorem beginRun_txf (k : Cont) (s : State) :
    (beginRun k s).txf = s.txf := rfl
@[simp] theorem beginRun_rxf (k : Cont) (s : State) :
    (beginRun k s).rxf = s.rxf := rfl
@[simp] theorem beginRun_mem (k : Cont) (s : State) :
    (beginRun k s).mem = s.mem := rfl
@[simp] theorem beginRun_ctl (k : Cont) (s : State) :
    (beginRun k s).ctl = .running k := rfl
@[simp] theorem beginRun_ret (k : Cont) (s : State) :
    (beginRun k s).ret = s.ret := rfl
@[simp] theorem beginRun_trace (k : Cont) (s : State) :
    (beginRun k s).trace = s.trace := rfl
@[simp] theorem beginRun_sendScript (k : Cont) (s : State) :
    (beginRun k s).sendScript = s.sendScript := rfl
@[simp] theorem beginRun_recvScript (k : Cont) (s : State) :
    (beginRun k s).recvScript = s.recvScript := rfl
@[simp] theorem beginRun_hostIn (k : Cont) (s : State) :
    (beginRun k s).hostIn = s.hostIn := rfl
@[simp] theorem beginRun_tick (k : Cont) (s : State) :
    (beginRun k s).tick = s.tick := rfl

/-! ### `endOp` -/

@[simp] theorem endOp_cfg (r : Ret) (s : State) :
    (endOp r s).cfg = s.cfg := rfl
@[simp] theorem endOp_pstate (r : Ret) (s : State) :
    (endOp r s).pstate = s.pstate := rfl
@[simp] theorem endOp_top (r : Ret) (s : State) :
    (endOp r s).top = .idle := rfl
@[simp] theorem endOp_status (r : Ret) (s : State) :
    (endOp r s).status = s.status := rfl
@[simp] theorem endOp_cause (r : Ret) (s : State) :
    (endOp r s).cause = s.cause := rfl
@[simp] theorem endOp_variant (r : Ret) (s : State) :
    (endOp r s).variant = s.variant := rfl
@[simp] theorem endOp_epsel (r : Ret) (s : State) :
    (endOp r s).epsel = s.epsel := rfl
@[simp] theorem endOp_ntx (r : Ret) (s : State) :
    (endOp r s).ntx = s.ntx := rfl
@[simp] theorem endOp_ltx (r : Ret) (s : State) :
    (endOp r s).ltx = s.ltx := rfl
@[simp] theorem endOp_rxc (r : Ret) (s : State) :
    (endOp r s).rxc = s.rxc := rfl
@[simp] theorem endOp_sv (r : Ret) (s : State) :
    (endOp r s).sv = s.sv := rfl
@[simp] theorem endOp_rlist (r : Ret) (s : State) :
    (endOp r s).rlist = s.rlist := rfl
@[simp] theorem endOp_epEse (r : Ret) (s : State) :
    (endOp r s).epEse = s.epEse := rfl
@[simp] theorem endOp_epEuicc (r : Ret) (s : State) :
    (endOp r s).epEuicc = s.epEuicc := rfl
@[simp] theorem endOp_txf (r : Ret) (s : State) :
    (endOp r s).txf = s.txf := rfl
@[simp] theorem endOp_rxf (r : Ret) (s : State) :
    (endOp r s).rxf = s.rxf := rfl
@[simp] theorem endOp_mem (r : Ret) (s : State) :
    (endOp r s).mem = s.mem := rfl
@[simp] theorem endOp_ctl (r : Ret) (s : State) :
    (endOp r s).ctl = .atRest := rfl
@[simp] theorem endOp_ret (r : Ret) (s : State) :
    (endOp r s).ret = r := rfl
@[simp] theorem endOp_trace (r : Ret) (s : State) :
    (endOp r s).trace = s.trace := rfl
@[simp] theorem endOp_sendScript (r : Ret) (s : State) :
    (endOp r s).sendScript = s.sendScript := rfl
@[simp] theorem endOp_recvScript (r : Ret) (s : State) :
    (endOp r s).recvScript = s.recvScript := rfl
@[simp] theorem endOp_hostIn (r : Ret) (s : State) :
    (endOp r s).hostIn = s.hostIn := rfl
@[simp] theorem endOp_tick (r : Ret) (s : State) :
    (endOp r s).tick = s.tick := rfl

/-! ### `setRxKind` -/

@[simp] theorem setRxKind_cfg (k : RxKind) (s : State) :
    (setRxKind k s).cfg = s.cfg := rfl
@[simp] theorem setRxKind_pstate (k : RxKind) (s : State) :
    (setRxKind k s).pstate = s.pstate := rfl
@[simp] theorem setRxKind_top (k : RxKind) (s : State) :
    (setRxKind k s).top = s.top := rfl
@[simp] theorem setRxKind_status (k : RxKind) (s : State) :
    (setRxKind k s).status = s.status := rfl
@[simp] theorem setRxKind_cause (k : RxKind) (s : State) :
    (setRxKind k s).cause = s.cause := rfl
@[simp] theorem setRxKind_variant (k : RxKind) (s : State) :
    (setRxKind k s).variant = s.variant := rfl
@[simp] theorem setRxKind_epsel (k : RxKind) (s : State) :
    (setRxKind k s).epsel = s.epsel := rfl
@[simp] theorem setRxKind_ntx (k : RxKind) (s : State) :
    (setRxKind k s).ntx = s.ntx := rfl
@[simp] theorem setRxKind_ltx (k : RxKind) (s : State) :
    (setRxKind k s).ltx = s.ltx := rfl
@[simp] theorem setRxKind_rxc (k : RxKind) (s : State) :
    (setRxKind k s).rxc = { s.rxc with ftype := k } := rfl
@[simp] theorem setRxKind_sv (k : RxKind) (s : State) :
    (setRxKind k s).sv = s.sv := rfl
@[simp] theorem setRxKind_rlist (k : RxKind) (s : State) :
    (setRxKind k s).rlist = s.rlist := rfl
@[simp] theorem setRxKind_epEse (k : RxKind) (s : State) :
    (setRxKind k s).epEse = s.epEse := rfl
@[simp] theorem setRxKind_epEuicc (k : RxKind) (s : State) :
    (setRxKind k s).epEuicc = s.epEuicc := rfl
@[simp] theorem setRxKind_txf (k : RxKind) (s : State) :
    (setRxKind k s).txf = s.txf := rfl
@[simp] theorem setRxKind_rxf (k : RxKind) (s : State) :
    (setRxKind k s).rxf = s.rxf := rfl
@[simp] theorem setRxKind_mem (k : RxKind) (s : State) :
    (setRxKind k s).mem = s.mem := rfl
@[simp] theorem setRxKind_ctl (k : RxKind) (s : State) :
    (setRxKind k s).ctl = s.ctl := rfl
@[simp] theorem setRxKind_ret (k : RxKind) (s : State) :
    (setRxKind k s).ret = s.ret := rfl
@[simp] theorem setRxKind_trace (k : RxKind) (s : State) :
    (setRxKind k s).trace = s.trace := rfl
@[simp] theorem setRxKind_sendScript (k : RxKind) (s : State) :
    (setRxKind k s).sendScript = s.sendScript := rfl
@[simp] theorem setRxKind_recvScript (k : RxKind) (s : State) :
    (setRxKind k s).recvScript = s.recvScript := rfl
@[simp] theorem setRxKind_hostIn (k : RxKind) (s : State) :
    (setRxKind k s).hostIn = s.hostIn := rfl
@[simp] theorem setRxKind_tick (k : RxKind) (s : State) :
    (setRxKind k s).tick = s.tick := rfl

/-! ### `chSend` -/

@[simp] theorem chSend_cfg (F : Bytes) (s : State) :
    (chSend F s).cfg = s.cfg := rfl
@[simp] theorem chSend_pstate (F : Bytes) (s : State) :
    (chSend F s).pstate = s.pstate := rfl
@[simp] theorem chSend_top (F : Bytes) (s : State) :
    (chSend F s).top = s.top := rfl
@[simp] theorem chSend_status (F : Bytes) (s : State) :
    (chSend F s).status = s.status := rfl
@[simp] theorem chSend_cause (F : Bytes) (s : State) :
    (chSend F s).cause = s.cause := rfl
@[simp] theorem chSend_variant (F : Bytes) (s : State) :
    (chSend F s).variant = s.variant := rfl
@[simp] theorem chSend_epsel (F : Bytes) (s : State) :
    (chSend F s).epsel = s.epsel := rfl
@[simp] theorem chSend_ntx (F : Bytes) (s : State) :
    (chSend F s).ntx = s.ntx := rfl
@[simp] theorem chSend_ltx (F : Bytes) (s : State) :
    (chSend F s).ltx = s.ltx := rfl
@[simp] theorem chSend_rxc (F : Bytes) (s : State) :
    (chSend F s).rxc = s.rxc := rfl
@[simp] theorem chSend_sv (F : Bytes) (s : State) :
    (chSend F s).sv = s.sv := rfl
@[simp] theorem chSend_rlist (F : Bytes) (s : State) :
    (chSend F s).rlist = s.rlist := rfl
@[simp] theorem chSend_epEse (F : Bytes) (s : State) :
    (chSend F s).epEse = s.epEse := rfl
@[simp] theorem chSend_epEuicc (F : Bytes) (s : State) :
    (chSend F s).epEuicc = s.epEuicc := rfl
@[simp] theorem chSend_txf (F : Bytes) (s : State) :
    (chSend F s).txf = s.txf := rfl
@[simp] theorem chSend_rxf (F : Bytes) (s : State) :
    (chSend F s).rxf = s.rxf := rfl
@[simp] theorem chSend_mem (F : Bytes) (s : State) :
    (chSend F s).mem = s.mem := rfl
@[simp] theorem chSend_ctl (F : Bytes) (s : State) :
    (chSend F s).ctl = s.ctl := rfl
@[simp] theorem chSend_ret (F : Bytes) (s : State) :
    (chSend F s).ret = s.ret := rfl
@[simp] theorem chSend_trace (F : Bytes) (s : State) :
    (chSend F s).trace = .sent F (nextSend s) :: s.trace := rfl
@[simp] theorem chSend_sendScript (F : Bytes) (s : State) :
    (chSend F s).sendScript = s.sendScript.tail := rfl
@[simp] theorem chSend_recvScript (F : Bytes) (s : State) :
    (chSend F s).recvScript = s.recvScript := rfl
@[simp] theorem chSend_hostIn (F : Bytes) (s : State) :
    (chSend F s).hostIn = s.hostIn := rfl
@[simp] theorem chSend_tick (F : Bytes) (s : State) :
    (chSend F s).tick = (match s.sendScript with | [] => s.tick + 1 | _ :: _ => s.tick) := rfl

/-! ### `chRecv` -/

@[simp] theorem chRecv_cfg (s : State) :
    (chRecv s).cfg = s.cfg := rfl
@[simp] theorem chRecv_pstate (s : State) :
    (chRecv s).pstate = s.pstate := rfl
@[simp] theorem chRecv_top (s : State) :
    (chRecv s).top = s.top := rfl
@[simp] theorem chRecv_status (s : State) :
    (chRecv s).status = s.status := rfl
@[simp] theorem chRecv_cause (s : State) :
    (chRecv s).cause = s.cause := rfl
@[simp] theorem chRecv_variant (s : State) :
    (chRecv s).variant = s.variant := rfl
@[simp] theorem chRecv_epsel (s : State) :
    (chRecv s).epsel = s.epsel := rfl
@[simp] theorem chRecv_ntx (s : State) :
    (chRecv s).ntx = s.ntx := rfl
@[simp] theorem chRecv_ltx (s : State) :
    (chRecv s).ltx = s.ltx := rfl
@[simp] theorem chRecv_rxc (s : State) :
    (chRecv s).rxc = s.rxc := rfl
@[simp] theorem chRecv_sv (s : State) :
    (chRecv s).sv = s.sv := rfl
@[simp] theorem chRecv_rlist (s : State) :
    (chRecv s).rlist = s.rlist := rfl
@[simp] theorem chRecv_epEse (s : State) :
    (chRecv s).epEse = s.epEse := rfl
@[simp] theorem chRecv_epEuicc (s : State) :
    (chRecv s).epEuicc = s.epEuicc := rfl
@[simp] theorem chRecv_txf (s : State) :
    (chRecv s).txf = s.txf := rfl
@[simp] theorem chRecv_rxf (s : State) :
    (chRecv s).rxf = s.rxf := rfl
@[simp] theorem chRecv_mem (s : State) :
    (chRecv s).mem = s.mem := rfl
@[simp] theorem chRecv_ctl (s : State) :
    (chRecv s).ctl = s.ctl := rfl
@[simp] theorem chRecv_ret (s : State) :
    (chRecv s).ret = s.ret := rfl
@[simp] theorem chRecv_trace (s : State) :
    (chRecv s).trace = .received s.cfg.recvTimeout (nextRecv s) :: s.trace := rfl
@[simp] theorem chRecv_sendScript (s : State) :
    (chRecv s).sendScript = s.sendScript := rfl
@[simp] theorem chRecv_recvScript (s : State) :
    (chRecv s).recvScript = s.recvScript.tail := rfl
@[simp] theorem chRecv_hostIn (s : State) :
    (chRecv s).hostIn = s.hostIn := rfl
@[simp] theorem chRecv_tick (s : State) :
    (chRecv s).tick = (match s.recvScript with | [] => s.tick + 1 | _ :: _ => s.tick) := rfl

end Machine
end Sys2Proof
end

