-- ==== Sys2Proof/Laws/Ops.lean ====
section
/-! SUPPORT. For each shared operation that can stop or branch, one lemma that says everything it can do. -/

namespace Sys2Proof
namespace Machine

/-- What `next_iframe_ctx` does, if it gives a next state (R142). -/
theorem nextIframe_cases {s t : State} (h : nextIframe s = .next t) :
    s.ntx.i.chained = true ∧ s.ntx.i.fragLen ≤ s.ntx.i.remaining ∧
      t = { s with ntx := { s.ntx with ftype := .i, i := nextFragment s.ntx.i } } := by
  unfold nextIframe at h
  split at h
  · cases h
  · rename_i hc
    split at h
    · cases h
    · rename_i hl
      cases h
      exact ⟨by simpa using hc, not_lt.mp hl, rfl⟩

/-- `next_iframe_ctx` under its precondition. -/
theorem nextIframe_next {s : State} (h1 : s.ntx.i.chained = true) (h2 : s.ntx.i.fragLen ≤ s.ntx.i.remaining) :
    nextIframe s = .next { s with ntx := { s.ntx with ftype := .i, i := nextFragment s.ntx.i } } := by
  simp [nextIframe, h1, not_lt.mpr h2]

/-- The replay of the last S-frame, if it gives a next state (R239). -/
theorem replayS_cases {s t : State} (h : replayS s = .next t) :
    ∃ ps, stateOf s.ltx.s.subtype = some ps ∧ t = { s with ntx := s.ltx, pstate := ps } := by
  unfold replayS at h
  split at h
  · rename_i ps hps
    cases h
    exact ⟨ps, hps, rfl⟩
  · cases h

/-- The subtypes some state sends, with that state (R146). -/
theorem stateOf_cases {sub : SSub} {ps : PState} (h : stateOf sub = some ps) :
    ∃ n, sub = .named n ∧ stateOfName n = some ps ∧
      (n, ps) ∈ [(SName.resynchReq, PState.sendSResync), (.ifsReq, .sendSIfsAdjust),
        (.wtxRsp, .sendSWtxResponse), (.atrReq, .sendSAtrRequest), (.intfResetReq, .sendSIntfReset),
        (.endOfSessionReq, .sendSEndOfSession), (.hardResetReq, .sendSHardReset)] := by
  cases sub with
  | named n => exact ⟨n, rfl, h, by cases n <;> simp_all [stateOf, stateOfName]⟩
  | unknown c => cases h
  | invalid => cases h

theorem ltxPending_iff (s : State) : ltxPending s = true ↔ s.ltx.i.buf ≠ none ∧ 1 ≤ s.ltx.i.fragLen := by
  simp [ltxPending, Option.isSome_iff_ne_none]

/-- Everything `retransmit` can do (R240), if it gives a next state. -/
theorem retransmit_cases {s t : State} (h : retransmit s = .next t) :
    (s.ltx.ftype = .i ∧ t = { s with ntx := s.ltx, pstate := .sendIframe }) ∨
    (s.ltx.ftype = .lock ∧ t = { s with ntx := s.ltx, pstate := .sendLockAcquire }) ∨
    (s.ltx.ftype = .s ∧ ∃ ps, stateOf s.ltx.s.subtype = some ps ∧ t = { s with ntx := s.ltx, pstate := ps }) ∨
    (s.ltx.ftype = .r ∧ ltxPending s = true ∧ s.rxc.rSeq = s.ltx.i.seq ∧ s.ltx.r.kind = .nack ∧
      t = { s with ntx := { s.ltx with ftype := .i }, pstate := .sendIframe }) ∨
    (s.ltx.ftype = .r ∧ s.rxc.rSeq ≠ s.ltx.i.seq ∧ s.ltx.r.kind = .ack ∧
      t = { s with ntx := s.ltx, pstate := .sendRAck }) ∨
    t = loadRframe .nack .other s := by
  unfold retransmit at h
  split at h
  · rename_i hf
    cases h
    exact .inl ⟨hf, rfl⟩
  · rename_i hf
    cases h
    exact .inr (.inl ⟨hf, rfl⟩)
  · rename_i hf
    exact .inr (.inr (.inl ⟨hf, replayS_cases h⟩))
  · rename_i hf
    split at h
    · rename_i hp
      cases h
      exact .inr (.inr (.inr (.inl ⟨hf, hp.1, hp.2.1, hp.2.2, rfl⟩)))
    · split at h
      · rename_i hp
        cases h
        exact .inr (.inr (.inr (.inr (.inl ⟨hf, hp.1, hp.2, rfl⟩))))
      · cases h
        exact .inr (.inr (.inr (.inr (.inr rfl))))
  · cases h
    exact .inr (.inr (.inr (.inr (.inr rfl))))

/-- What a guarded action can do, if it gives a next state (R238 to R240). -/
theorem guardedAction_cases {a : GuardedAction} {s t : State} (h : guardedAction a s = .next t) :
    t = loadRframe .nack .other s ∨ (a = .retransmit ∧ retransmit s = .next t) ∨
      (a = .replayS ∧ replayS s = .next t) := by
  cases a with
  | nackOther => exact .inl (by cases h; rfl)
  | retransmit => exact .inr (.inl ⟨rfl, h⟩)
  | replayS => exact .inr (.inr ⟨rfl, h⟩)

/-- Every guarded action leaves the session variables alone. -/
theorem guardedAction_sv {a : GuardedAction} {s t : State} (h : guardedAction a s = .next t) : t.sv = s.sv := by
  rcases guardedAction_cases h with rfl | ⟨_, h⟩ | ⟨_, h⟩
  · rfl
  · rcases retransmit_cases h with ⟨_, rfl⟩ | ⟨_, rfl⟩ | ⟨_, _, _, rfl⟩ | ⟨_, _, _, _, rfl⟩ | ⟨_, _, _, rfl⟩ | rfl <;>
      rfl
  · obtain ⟨_, _, rfl⟩ := replayS_cases h
    rfl

/-- Everything the guard can do, if it gives a next state (R237). -/
theorem guarded_cases {a : GuardedAction} {s t : State} (h : guarded a s = .next t) :
    (s.sv.recoveryCounter < s.cfg.frameRetryCount ∧
      ∃ u, guardedAction a s = .next u ∧ t = setRecovery (s.sv.recoveryCounter + 1) u) ∨
    (s.cfg.frameRetryCount ≤ s.sv.recoveryCounter ∧ t = recoveryProcedure s) := by
  unfold guarded at h
  split at h
  · rename_i hl
    split at h
    · rename_i u hu
      cases h
      exact .inl ⟨hl, u, hu, by rw [guardedAction_sv hu]⟩
    · cases h
    · cases h
  · rename_i hl
    cases h
    exact .inr ⟨not_lt.mp hl, rfl⟩

/-- The recovery procedure: an interface reset, or the give-up path (R241). -/
theorem recoveryProcedure_cases (s : State) :
    (s.sv.recoveryCounter ≤ s.cfg.frameRetryCount ∧
      recoveryProcedure s =
        { setRecovery (s.sv.recoveryCounter + 1) (loadSframe .intfResetReq [] .sendSIntfReset s) with
          status := s.cfg.recoveryStatus }) ∨
    (s.cfg.frameRetryCount < s.sv.recoveryCounter ∧ recoveryProcedure s = giveUp s) := by
  unfold recoveryProcedure
  split
  · exact .inl ⟨by assumption, rfl⟩
  · exact .inr ⟨by omega, rfl⟩

/-- The retry policy: an R-NACK, or the end of the exchange (R236). -/
theorem retryPolicy_cases (s : State) :
    (s.sv.rnackRetryCounter < s.sv.rnackRetryLimit ∧
      retryPolicy s = setRnack (s.sv.rnackRetryCounter + 1) (loadRframe .nack .parity s)) ∨
    (s.sv.rnackRetryLimit ≤ s.sv.rnackRetryCounter ∧
      retryPolicy s = endExchange .recoveryExhausted s) := by
  unfold retryPolicy
  split
  · exact .inl ⟨by assumption, rfl⟩
  · exact .inr ⟨by omega, rfl⟩

/-- Everything the frame of a host operation can do (R200). -/
theorem hostOp_cases (valid : Bool) (mode : TopState) (body : State → State) (s : State) :
    (s.top ≠ .idle ∧ hostOp valid mode body s = .next (raise .busy s)) ∨
    (s.top = .idle ∧ valid = false ∧ hostOp valid mode body s = .next (raise .invalidParameter s)) ∨
    (s.top = .idle ∧ valid = true ∧ hostOp valid mode body s = .next (body { s with top := mode })) := by
  unfold hostOp
  by_cases h : s.top = .idle
  · cases valid <;> simp [h]
  · simp [h]

/-- The frame `encode_iframe` gives, if it gives one (R100, R101). -/
theorem encodeI_cases {s : State} {x : TxCtx} {F : Bytes} (h : encodeI s x = .frame F) :
    ∃ b, x.i.buf = some b ∧ 1 ≤ x.i.fragLen ∧ x.i.offset + x.i.fragLen ≤ b.len ∧
      x.i.fragLen ≤ Config.extLenMax ∧ (x.i.fragLen ≤ Config.shortLenMax ∨ s.variant = .extended) ∧
      F = frameI s.cfg (txAddr s) x.i.seq x.i.chained
        (Memory.slice s.mem (b.base + x.i.offset) x.i.fragLen) := by
  unfold encodeI at h
  split at h
  · cases h
  · rename_i h1
    split at h
    · cases h
    · rename_i h2
      split at h
      · cases h
      · rename_i h3
        split at h
        · cases h
        · rename_i inf hm
          obtain ⟨b, hb, hl, rfl⟩ := memRead_some hm
          cases h
          simp only [not_or] at h1
          refine ⟨b, hb, Nat.one_le_iff_ne_zero.mpr h1.2, hl, not_lt.mp h3, ?_, rfl⟩
          by_cases hs : x.i.fragLen ≤ Config.shortLenMax
          · exact .inl hs
          · refine .inr ?_
            cases hv : s.variant with
            | legacy => exact absurd ⟨not_le.mp hs, hv⟩ h2
            | extended => rfl

/-- An encode operation as a transition, if it gives a next state (R104). -/
theorem finishEncode_cases {r : EncOut} {s t : State} (h : finishEncode r s = .next t) :
    (∃ F, r = .frame F ∧ t = { s with txf := F, ret := .frameBytes F }) ∨
    (r = .raised ∧
      t = { s with txf := Config.freeBytes s.tick, tick := s.tick + 1, ret := .err .invalidParameter }) := by
  cases r with
  | frame F => exact .inl ⟨F, rfl, by cases h; rfl⟩
  | raised => exact .inr ⟨rfl, by cases h; rfl⟩
  | noValue => cases h

/-- Everything a WTX request can do (R193). -/
theorem wtxRequest_cases (s : State) :
    (s.sv.wtxCounter + 1 < s.sv.wtxCounterLimit ∧
      wtxRequest s = loadSframe .wtxRsp [s.cfg.wtxRspPayload] .sendSWtxResponse
        (note (.slept s.cfg.wtxDelay) (setWtx (s.sv.wtxCounter + 1) s))) ∨
    (s.sv.wtxCounterLimit ≤ s.sv.wtxCounter + 1 ∧
      wtxRequest s = endExchange .transceiveFailed (setWtx (s.sv.wtxCounter + 1) s)) := by
  by_cases h : s.sv.wtxCounterLimit ≤ s.sv.wtxCounter + 1
  · exact .inr ⟨h, by simp [wtxRequest, setWtx, h]⟩
  · exact .inl ⟨by omega, by simp [wtxRequest, setWtx, h]⟩

/-- R253's bound on the WTX counter, where it holds: while the counter is below its limit, so that no exchange has
failed since it was cleared (log entry 18). -/
theorem wtxRequest_bound {s : State} (h : s.sv.wtxCounter < max s.sv.wtxCounterLimit 1) :
    (wtxRequest s).sv.wtxCounter ≤ max (wtxRequest s).sv.wtxCounterLimit 1 := by
  rcases wtxRequest_cases s with ⟨_, h2⟩ | ⟨_, h2⟩ <;> rw [h2] <;>
    simp [loadSframe, note, setWtx, endExchange] <;> omega

end Machine
end Sys2Proof
end

