-- ==== Sys2Proof/Laws/PerInstr.lean ====
section
/-! SUPPORT. The per-instruction family `FrameShape`: what every encoded frame looks like (R105, R92). -/

namespace Sys2Proof
namespace Laws
namespace FrameShape

/-- Every frame the encoder gives for the instruction begins with the address byte, has four bytes or more, and ends
with the LRC of the bytes before it (R60, R92, R105). An instruction with no frame satisfies it idly. -/
def Statement (i : Instr) : Prop :=
  ∀ (c : Cfg) (addr : Byte) (F : Bytes), encode c addr i = some F →
    F.head? = some addr ∧ 4 ≤ F.length ∧ F.getLast? = some (lrc F c.lrcEncFrom.val (F.length - 1))

/-- A sealed body of three bytes or more has the shape. -/
theorem of_sealed (c : Cfg) (addr pcb len : Byte) (rest : Bytes) :
    (sealFrame c (addr :: pcb :: len :: rest)).head? = some addr ∧
      4 ≤ (sealFrame c (addr :: pcb :: len :: rest)).length ∧
      (sealFrame c (addr :: pcb :: len :: rest)).getLast? =
        some (lrc (sealFrame c (addr :: pcb :: len :: rest)) c.lrcEncFrom.val
          ((sealFrame c (addr :: pcb :: len :: rest)).length - 1)) := by
  refine ⟨rfl, by simp, ?_⟩
  rw [getLast?_sealFrame, length_sealFrame]
  simp only [sealFrame, Nat.add_sub_cancel]
  rw [lrc_append_of_le _ _ _ _ le_rfl]

/-- The instructions whose frame is a sealed body of three bytes or more. -/
theorem of_encode {i : Instr}
    (h : ∀ c addr, ∃ pcb len rest, encode c addr i = some (sealFrame c (addr :: pcb :: len :: rest))) :
    Statement i := by
  intro c addr F hF
  obtain ⟨pcb, len, rest, e⟩ := h c addr
  rw [e] at hF
  cases hF
  exact of_sealed c addr pcb len rest

/-- The instructions with no frame. -/
theorem of_none {i : Instr} (h : ∀ c addr, encode c addr i = none) : Statement i := by
  intro c addr F hF
  rw [h] at hF
  cases hF

theorem iShort (seq chained : Bit) (payload : Bytes) : Statement (Instr.iShort seq chained payload) :=
  of_encode fun _ _ => ⟨_, _, _, rfl⟩

theorem iExt (seq chained : Bit) (payload : Bytes) : Statement (Instr.iExt seq chained payload) :=
  of_encode fun _ _ => ⟨_, _, _, rfl⟩

theorem lock (seq : Bit) : Statement (Instr.lock seq) :=
  of_encode fun _ _ => ⟨_, _, _, rfl⟩

theorem rAck (seq : Bit) : Statement (Instr.rAck seq) :=
  of_encode fun _ _ => ⟨_, _, _, rfl⟩

theorem rNackParity (seq : Bit) : Statement (Instr.rNackParity seq) :=
  of_encode fun _ _ => ⟨_, _, _, rfl⟩

theorem rNackOther (seq : Bit) : Statement (Instr.rNackOther seq) :=
  of_encode fun _ _ => ⟨_, _, _, rfl⟩

theorem rNackMissing (seq : Bit) : Statement (Instr.rNackMissing seq) :=
  of_encode fun _ _ => ⟨_, _, _, rfl⟩

theorem rUndefBit5 (seq : Bit) : Statement (Instr.rUndefBit5 seq) :=
  of_encode fun _ _ => ⟨_, _, _, rfl⟩

theorem rUndefBit3 (seq : Bit) : Statement (Instr.rUndefBit3 seq) :=
  of_encode fun _ _ => ⟨_, _, _, rfl⟩

theorem rUndefBit2 (seq : Bit) : Statement (Instr.rUndefBit2 seq) :=
  of_encode fun _ _ => ⟨_, _, _, rfl⟩

theorem sResynchReq (payload : Bytes) : Statement (Instr.sResynchReq payload) :=
  of_encode fun _ _ => ⟨_, _, _, rfl⟩

theorem sResynchRsp (payload : Bytes) : Statement (Instr.sResynchRsp payload) :=
  of_encode fun _ _ => ⟨_, _, _, rfl⟩

theorem sIfsReq (payload : Bytes) : Statement (Instr.sIfsReq payload) :=
  of_encode fun _ _ => ⟨_, _, _, rfl⟩

theorem sIfsRsp (payload : Bytes) : Statement (Instr.sIfsRsp payload) :=
  of_encode fun _ _ => ⟨_, _, _, rfl⟩

theorem sAbortReq (payload : Bytes) : Statement (Instr.sAbortReq payload) :=
  of_encode fun _ _ => ⟨_, _, _, rfl⟩

theorem sAbortRsp (payload : Bytes) : Statement (Instr.sAbortRsp payload) :=
  of_encode fun _ _ => ⟨_, _, _, rfl⟩

theorem sWtxReq (payload : Bytes) : Statement (Instr.sWtxReq payload) :=
  of_encode fun _ _ => ⟨_, _, _, rfl⟩

theorem sWtxRsp (payload : Bytes) : Statement (Instr.sWtxRsp payload) :=
  of_encode fun _ _ => ⟨_, _, _, rfl⟩

theorem sEndOfSessionReq (payload : Bytes) : Statement (Instr.sEndOfSessionReq payload) :=
  of_encode fun _ _ => ⟨_, _, _, rfl⟩

theorem sEndOfSessionRsp (payload : Bytes) : Statement (Instr.sEndOfSessionRsp payload) :=
  of_encode fun _ _ => ⟨_, _, _, rfl⟩

theorem sHardResetReq (payload : Bytes) : Statement (Instr.sHardResetReq payload) :=
  of_encode fun _ _ => ⟨_, _, _, rfl⟩

theorem sHardResetRsp (payload : Bytes) : Statement (Instr.sHardResetRsp payload) :=
  of_encode fun _ _ => ⟨_, _, _, rfl⟩

theorem sAtrReq (payload : Bytes) : Statement (Instr.sAtrReq payload) :=
  of_encode fun _ _ => ⟨_, _, _, rfl⟩

theorem sAtrRsp (payload : Bytes) : Statement (Instr.sAtrRsp payload) :=
  of_encode fun _ _ => ⟨_, _, _, rfl⟩

theorem sIntfResetReq (payload : Bytes) : Statement (Instr.sIntfResetReq payload) :=
  of_encode fun _ _ => ⟨_, _, _, rfl⟩

theorem sIntfResetRsp (payload : Bytes) : Statement (Instr.sIntfResetRsp payload) :=
  of_encode fun _ _ => ⟨_, _, _, rfl⟩

theorem sUnknown (code : BitVec 6) (payload : Bytes) : Statement (Instr.sUnknown code payload) :=
  of_encode fun _ _ => ⟨_, _, _, rfl⟩

theorem openSession (mode : Option InitMode) : Statement (Instr.openSession mode) :=
  of_none fun _ _ => rfl

theorem transceive (cmd : Option BufRef) : Statement (Instr.transceive cmd) :=
  of_none fun _ _ => rfl

theorem acquireLock (isFirst : Bool) : Statement (Instr.acquireLock isFirst) :=
  of_none fun _ _ => rfl

theorem release : Statement Instr.release :=
  of_none fun _ _ => rfl

theorem reset : Statement Instr.reset :=
  of_none fun _ _ => rfl

theorem close : Statement Instr.close :=
  of_none fun _ _ => rfl

theorem closeAllSessions : Statement Instr.closeAllSessions :=
  of_none fun _ _ => rfl

theorem setIfs (size : Nat) : Statement (Instr.setIfs size) :=
  of_none fun _ _ => rfl

theorem getIfs : Statement Instr.getIfs :=
  of_none fun _ _ => rfl

theorem getAtr : Statement Instr.getAtr :=
  of_none fun _ _ => rfl

theorem setEndpoint (ep : Option Endpoint) : Statement (Instr.setEndpoint ep) :=
  of_none fun _ _ => rfl

theorem resetEndpoint : Statement Instr.resetEndpoint :=
  of_none fun _ _ => rfl

theorem computeLrc (buf : Bytes) (offset stop : Nat) : Statement (Instr.computeLrc buf offset stop) :=
  of_none fun _ _ => rfl

theorem checkLrc (F : Bytes) : Statement (Instr.checkLrc F) :=
  of_none fun _ _ => rfl

theorem encodeIframe (ctx : TxCtx) : Statement (Instr.encodeIframe ctx) :=
  of_none fun _ _ => rfl

theorem encodeRframe (kind : AckKind) (err : ErrClass) (seq : Bit) : Statement (Instr.encodeRframe kind err seq) :=
  of_none fun _ _ => rfl

theorem encodeSframe (subtype : SSub) (payload : Bytes) : Statement (Instr.encodeSframe subtype payload) :=
  of_none fun _ _ => rfl

theorem encodeLock (ctx : TxCtx) : Statement (Instr.encodeLock ctx) :=
  of_none fun _ _ => rfl

theorem decode (F : Bytes) : Statement (Instr.decode F) :=
  of_none fun _ _ => rfl

theorem seedIframe (buf : Option BufRef) (n : Nat) : Statement (Instr.seedIframe buf n) :=
  of_none fun _ _ => rfl

theorem nextIframeCtx : Statement Instr.nextIframeCtx :=
  of_none fun _ _ => rfl

theorem seedLock : Statement Instr.seedLock :=
  of_none fun _ _ => rfl

theorem seedSframe (subtype : SSub) (payload : Bytes) : Statement (Instr.seedSframe subtype payload) :=
  of_none fun _ _ => rfl

theorem seedRframe (kind : AckKind) (err : ErrClass) : Statement (Instr.seedRframe kind err) :=
  of_none fun _ _ => rfl

theorem step : Statement Instr.step :=
  of_none fun _ _ => rfl

theorem run : Statement Instr.run :=
  of_none fun _ _ => rfl

theorem dispatch (f : Frame) : Statement (Instr.dispatch f) :=
  of_none fun _ _ => rfl

theorem retryPolicy : Statement Instr.retryPolicy :=
  of_none fun _ _ => rfl

theorem guarded (action : GuardedAction) : Statement (Instr.guarded action) :=
  of_none fun _ _ => rfl

theorem retransmit : Statement Instr.retransmit :=
  of_none fun _ _ => rfl

theorem recoveryProcedure : Statement Instr.recoveryProcedure :=
  of_none fun _ _ => rfl

theorem giveUp : Statement Instr.giveUp :=
  of_none fun _ _ => rfl

theorem resetParams : Statement Instr.resetParams :=
  of_none fun _ _ => rfl

theorem powerOnReset : Statement Instr.powerOnReset :=
  of_none fun _ _ => rfl

end FrameShape
end Laws
end Sys2Proof
end

