-- ==== Sys2Proof/Laws/Sequencer.lean ====
section
/-! SUPPORT. What one exchange, one `step` and one transition of the machine can do. -/

namespace Sys2Proof
namespace Machine

/-- A received frame that decodes, or one that is lost (R160). -/
theorem receiveFrame_cases (s : State) :
    (∃ c r, receiveFrame s = .lost (setCause c r) ∧
      (r = chRecv s ∨ ∃ G, nextRecv s = .bytes G ∧ r = { chRecv s with rxf := G }) ∧ c ≠ .none) ∨
    (∃ G i, nextRecv s = .bytes G ∧ decodeInstr s.cfg s.variant s.epsel G = .ok i ∧
      receiveFrame s = .got i { chRecv s with rxf := G }) := by
  unfold receiveFrame
  split
  · exact .inl ⟨.timeout, _, rfl, .inl rfl, by decide⟩
  · exact .inl ⟨.ioFailure, _, rfl, .inl rfl, by decide⟩
  · rename_i G hG
    split
    · rename_i e _
      exact .inl ⟨_, _, rfl, .inr ⟨G, hG, rfl⟩, by cases e <;> decide⟩
    · rename_i i hi
      exact .inr ⟨G, i, hG, hi, rfl⟩

/-- Everything one exchange can come to (R160, R162, R169). -/
theorem exchange_cases (s : State) :
    (∃ r, exchange s = .stuck r ∧
      ((sendStateAgrees s.pstate s.ntx = false ∧ r = .refused .sendStateMismatch) ∨
       (sendStateAgrees s.pstate s.ntx = true ∧ frameFor s = .raised ∧ r = .refused .encoderRaised) ∨
       (sendStateAgrees s.pstate s.ntx = true ∧ frameFor s = .noValue ∧ r = .fault .memReadOutside))) ∨
    (∃ F, sendStateAgrees s.pstate s.ntx = true ∧ frameFor s = .frame F ∧
      ((nextSend s = .ioError ∧ exchange s = .failed (sendFailed { chSend F s with txf := F })) ∨
       (nextSend s = .ok ∧ exchange s = receiveFrame { chSend F s with txf := F, ltx := s.ntx }))) := by
  unfold exchange
  split
  · rename_i h
    exact .inl ⟨_, rfl, .inl ⟨h, rfl⟩⟩
  · rename_i h
    have h : sendStateAgrees s.pstate s.ntx = true := by simpa using h
    split
    · rename_i hf
      exact .inl ⟨_, rfl, .inr (.inl ⟨h, hf, rfl⟩)⟩
    · rename_i hf
      exact .inl ⟨_, rfl, .inr (.inr ⟨h, hf, rfl⟩)⟩
    · rename_i F hf
      refine .inr ⟨F, h, hf, ?_⟩
      cases hn : nextSend s with
      | ok => exact .inr ⟨rfl, rfl⟩
      | ioError => exact .inl ⟨rfl, rfl⟩

/-- A frame that an exchange got was read by the decoder, so it is a wire frame. -/
theorem exchange_got {s t : State} {i : Instr} (h : exchange s = .got i t) : ∃ f, i.toFrame = some f := by
  rcases exchange_cases s with ⟨r, hr, _⟩ | ⟨F, _, _, ⟨_, hr⟩ | ⟨_, hr⟩⟩
  · rw [hr] at h; cases h
  · rw [hr] at h; cases h
  · rw [hr] at h
    rcases receiveFrame_cases { chSend F s with txf := F, ltx := s.ntx } with ⟨_, _, he, _, _⟩ | ⟨_, j, _, hd, he⟩
    · rw [he] at h; cases h
    · rw [he] at h
      cases h
      exact decodeInstr_isWire hd

/-- R149 at the moment a frame is received: the context sent last is the one being prepared (R13). -/
theorem exchange_got_contexts {s t : State} {i : Instr} (h : exchange s = .got i t) : t.ltx = t.ntx := by
  rcases exchange_cases s with ⟨r, hr, _⟩ | ⟨F, _, _, ⟨_, hr⟩ | ⟨_, hr⟩⟩ <;> rw [hr] at h
  · cases h
  · cases h
  · rcases receiveFrame_cases { chSend F s with txf := F, ltx := s.ntx } with ⟨_, _, he, _, _⟩ | ⟨_, j, _, _, he⟩ <;>
      rw [he] at h <;> cases h
    rfl

/-- The meaning of a wire frame is the receive dispatch of its record. -/
theorem dispatchWire_eq_exec {i : Instr} {f : Frame} (h : i.toFrame = some f) (s : State) :
    dispatchWire i s = exec i s := by
  cases i <;> simp [Instr.toFrame] at h <;> subst h <;> rfl

/-- The encode operation of a state gives the frame the sequencer sends. -/
theorem frameFor_of_sendingOp {s u : State} {op : Instr} {F : Bytes} (h : sendingOp s = some op)
    (hu : exec op s = .next u) (hF : u.ret = .frameBytes F) : frameFor s = .frame F := by
  have fin : ∀ r, finishEncode r s = .next u → r = .frame F := by
    intro r hr
    rcases finishEncode_cases hr with ⟨G, rfl, rfl⟩ | ⟨rfl, rfl⟩
    · simpa using hF
    · simp at hF
  cases hp : s.pstate <;> simp only [sendingOp, hp, Option.some.injEq, reduceCtorEq] at h
  all_goals (subst h; simp only [frameFor, hp]; exact fin _ hu)

/-- Inside a `run`, with a quiet host, a transition in a send state is one `step`. -/
theorem step_running {s : State} {k : Cont} (hk : s.ctl = .running k) (hh : s.hostIn = []) (hp : s.pstate ≠ .idle) :
    step s = seqStep s := by
  simp only [step, fetch, hh, advanceRun, hk, if_neg hp, seqStep]
  cases he : exchange s with
  | stuck r => rfl
  | failed t => rfl
  | lost t => rfl
  | got i t =>
    obtain ⟨f, hf⟩ := exchange_got he
    exact (dispatchWire_eq_exec hf t).symm

/-- Inside a `run`, with a quiet host, the transition after `PSTATE = Idle` is what the operation does then. -/
theorem step_finish {s : State} {k : Cont} (hk : s.ctl = .running k) (hh : s.hostIn = []) (hp : s.pstate = .idle) :
    step s = .next (finishOp k s) := by
  simp [step, fetch, hh, advanceRun, hk, hp]

/-- The host's call is executed at once. -/
theorem step_call {s : State} {i : Instr} {rest : List HostEvent} (hh : s.hostIn = .call i :: rest)
    (hi : i.hostCallable = true) : step s = exec i { s with hostIn := rest } := by
  simp [step, fetch, hh, hi]

/-- An address is in use in a command buffer that the operation in progress or a context holds (R51, R281). -/
theorem inUse_iff (a : Nat) (s : State) : inUse a s = true ↔
    ∃ b, (s.ctl = .running (.transceive b) ∨ s.ntx.i.buf = some b ∨ s.ltx.i.buf = some b) ∧
      b.base ≤ a ∧ a < b.base + b.len := by
  have cov : ∀ o : Option BufRef, covers o a = true ↔ ∃ b, o = some b ∧ b.base ≤ a ∧ a < b.base + b.len := by
    intro o; cases o <;> simp [covers]
  have op : ∀ b, operationBuffer s.ctl = some b ↔ s.ctl = .running (.transceive b) := by
    intro b
    cases hk : s.ctl with
    | atRest => simp [operationBuffer]
    | running k => cases k <;> simp [operationBuffer]
  simp only [inUse, Bool.or_eq_true, cov, op]
  constructor
  · rintro ((⟨b, h, hb⟩ | ⟨b, h, hb⟩) | ⟨b, h, hb⟩)
    · exact ⟨b, .inl h, hb⟩
    · exact ⟨b, .inr (.inl h), hb⟩
    · exact ⟨b, .inr (.inr h), hb⟩
  · rintro ⟨b, h | h | h, hb⟩
    · exact .inl (.inl ⟨b, h, hb⟩)
    · exact .inl (.inr ⟨b, h, hb⟩)
    · exact .inr ⟨b, h, hb⟩

/-- Everything the host's store can do (R51, R281, U7). -/
theorem hostStore_cases (a : Nat) (v : Byte) (s : State) :
    (hostStore a v s = .refused .bufferChangedInUse ∧ s.top ≠ .idle ∧ inUse a s = true ∧ Memory.read s.mem a ≠ v) ∨
    (hostStore a v s = .next { s with mem := Memory.write s.mem a v } ∧
      ¬ (s.top ≠ .idle ∧ inUse a s = true ∧ Memory.read s.mem a ≠ v)) := by
  unfold hostStore
  split
  · rename_i h
    exact .inl ⟨rfl, h⟩
  · rename_i h
    exact .inr ⟨rfl, h⟩

/-- The only states from which `step` starts an instruction are a host call and a frame received. -/
theorem fetch_instr {s t : State} {i : Instr} (h : fetch s = .instr i t) :
    (∃ rest, s.hostIn = .call i :: rest ∧ i.hostCallable = true ∧ t = { s with hostIn := rest }) ∨
    (∃ k r, s.ctl = .running k ∧ s.pstate ≠ .idle ∧ exchange r = .got i t ∧
      (r = s ∨ ∃ rest, s.hostIn = .quiet :: rest ∧ r = { s with hostIn := rest })) := by
  have adv : ∀ r : State, r.ctl = s.ctl → r.pstate = s.pstate → advanceRun r = .instr i t →
      ∃ k, s.ctl = .running k ∧ s.pstate ≠ .idle ∧ exchange r = .got i t := by
    intro r h1 h2 hr
    unfold advanceRun at hr
    rw [h1, h2] at hr
    split at hr
    · cases hr
    · rename_i k hk
      split at hr
      · cases hr
      · rename_i hp
        split at hr
        · cases hr
        · cases hr
        · cases hr
        · rename_i j u he
          cases hr
          exact ⟨k, hk, hp, he⟩
  unfold fetch at h
  split at h
  · obtain ⟨k, h1, h2, h3⟩ := adv s rfl rfl h
    exact .inr ⟨k, s, h1, h2, h3, .inl rfl⟩
  · rename_i rest hq
    obtain ⟨k, h1, h2, h3⟩ := adv { s with hostIn := rest } rfl rfl h
    exact .inr ⟨k, _, h1, h2, h3, .inr ⟨rest, hq, rfl⟩⟩
  · cases h
  · rename_i j rest hc
    split at h
    · rename_i hj
      cases h
      exact .inl ⟨rest, hc, hj, rfl⟩
    · cases h

end Machine
end Sys2Proof
end

