-- ==== Sys2Proof/Tests/Slice0.lean ====
section
/-! SUPPORT. The model's own tests. Expected values are those of spec/95_test_vectors.md (named at each test) or of
the encoding tables of spec/30_encoding.md. -/

namespace Sys2Proof
namespace Tests

open Sys2Proof.Machine

/-! ## States the tests start from -/

/-- The vectors' configuration (spec/95): the defaults, `WTX_COUNTER_LIMIT = 3`, `CLOSE_ALL_MARKER = 0x77` (VS14). -/
def cfg0 : Cfg :=
  { Cfg.standard with
    addrTxEuicc := 0x5B#8, addrRxEuicc := 0xB5#8, wtxCounterLimit := 3, closeAllMarker := 0x77#8
    recoveryDelay := 1, wtxDelay := 2, sSettleDelay := 3, recvTimeout := 4 }

/-- After power-on reset, with the command bytes `[00 A4 04 00]` at address 1 of the host's memory. -/
def base : State :=
  { State.reset with
    cfg := cfg0, ntx := initialTx cfg0, ltx := initialTx cfg0, sv := initialSv cfg0
    epEse := initialSnapshot cfg0, epEuicc := initialSnapshot cfg0
    mem := [(2, 0xA4#8), (3, 0x04#8)] }

/-- The command of EX1. -/
def cmd : BufRef := { base := 1, len := 4 }

/-- The next state, or the old one where there is none. -/
def after (r : Result) (s : State) : State :=
  match r with
  | .next t => t
  | .fault _ => s
  | .refused _ => s

/-- Whether a result is a next state with a property. -/
def nextHas (r : Result) (p : State → Bool) : Bool :=
  match r with
  | .next t => p t
  | .fault _ => false
  | .refused _ => false

/-- Whether a result is the refusal named. -/
def refusedBy (r : Result) (x : Refusal) : Bool :=
  match r with
  | .next _ => false
  | .fault _ => false
  | .refused y => decide (y = x)

/-- Inside `transceive([00 A4 04 00])`, about to send the command. -/
def started : State := after (exec (.transceive (some cmd)) base) base

/-- The same with the adapter's answers scripted. -/
def script (ss : List SendAnswer) (rs : List RecvAnswer) (s : State) : State :=
  { s with sendScript := ss, recvScript := rs }

/-- The command was sent and an answer is awaited: `LTX = NTX`. -/
def sent : State := { started with ltx := started.ntx }

/-- Inside a chained command of ten bytes with the bound 4 (VK4), its first fragment sent. -/
def chainSent : State :=
  let s := { base with sv := { base.sv with ifsCurrent := 4, ifsMax := 4 } }
  let t := after (exec (.seedIframe (some { base := 1, len := 10 }) 10) s) s
  { t with ltx := t.ntx, top := .transceive, ctl := .running (.transceive { base := 1, len := 10 }) }

/-- Inside `open` in resync mode, the request sent. -/
def resyncSent : State :=
  let t := after (exec (.openSession (some .resync)) base) base
  { t with ltx := t.ntx }

/-- The guard's counter at its limit. -/
def worn (s : State) : State := { s with sv := { s.sv with recoveryCounter := 3 } }

/-! ## Well-formedness -/

theorem test_wf_cfg0 : cfg0.wf := by decide
theorem test_wf_cfg_same_bits : ¬ Cfg.wf { cfg0 with iChainBit := 6 } := by decide
theorem test_wf_cfg_top_bit : ¬ Cfg.wf { cfg0 with iSeqBit := 7 } := by decide
theorem test_wf_cfg_rseq : ¬ Cfg.wf { cfg0 with rSeqBit := 3 } := by decide
theorem test_wf_cfg_rsp_bit : ¬ Cfg.wf { cfg0 with sRspBit := 6 } := by decide
theorem test_wf_cfg_err_codes : ¬ Cfg.wf { cfg0 with rErrOther := 1#2 } := by decide
theorem test_wf_cfg_s_codes : ¬ Cfg.wf { cfg0 with sCodeAtr := 0x06#5 } := by decide
theorem test_wf_cfg_ifs_zero : ¬ Cfg.wf { cfg0 with ifsDefault := 0 } := by decide
theorem test_wf_cfg_ifs_long : ¬ Cfg.wf { cfg0 with ifsDefault := 255, ifsMaxInit := 255 } := by decide
theorem test_wf_cfg_ifs_max : ¬ Cfg.wf { cfg0 with ifsMaxInit := 253 } := by decide
theorem test_wf_cfg_wtx : ¬ Cfg.wf { cfg0 with wtxCounterLimit := 0 } := by decide
theorem test_wf_i_short (p q : Bytes) (hp : p.length = 254) (hq : q.length = 255) :
    (Instr.iShort true true p).wf cfg0 = true ∧ (Instr.iShort true true q).wf cfg0 = false := by
  simp [Instr.wf, Config.shortLenMax, hp, hq]
theorem test_wf_i_ext (p q : Bytes) (hp : p.length = 65535) (hq : q.length = 65536) :
    (Instr.iExt true true p).wf cfg0 = true ∧ (Instr.iExt true true q).wf cfg0 = false := by
  simp [Instr.wf, Config.extLenMax, hp, hq]
theorem test_wf_s (p q : Bytes) (hp : p.length = 254) (hq : q.length = 255) :
    (Instr.sAtrRsp p).wf cfg0 = true ∧ (Instr.sAtrRsp q).wf cfg0 = false := by
  simp [Instr.wf, Config.shortLenMax, hp, hq]
theorem test_wf_unknown_long (q : Bytes) (hq : q.length = 255) : (Instr.sUnknown 0x15#6 q).wf cfg0 = false := by
  simp [Instr.wf, Config.shortLenMax, hq]
theorem test_wf_unknown_known : (Instr.sUnknown 0x15#6 []).wf cfg0 = true ∧
    (Instr.sUnknown 0x27#6 []).wf cfg0 = false := by decide
theorem test_wf_compute_lrc : (Instr.computeLrc [0x5A#8] 0 1).wf cfg0 = true ∧
    (Instr.computeLrc [0x5A#8] 0 2).wf cfg0 = false := by decide
theorem test_wf_check_lrc : (Instr.checkLrc [0xA5#8, 0#8]).wf cfg0 = true ∧
    (Instr.checkLrc [0xA5#8]).wf cfg0 = false := by decide
theorem test_wf_seed_iframe : (Instr.seedIframe (some cmd) 4).wf cfg0 = true ∧
    (Instr.seedIframe (some cmd) 5).wf cfg0 = false := by decide
theorem test_wf_seed_rframe : (Instr.seedRframe .ack .none).wf cfg0 = true ∧
    (Instr.seedRframe .ack .parity).wf cfg0 = false ∧ (Instr.seedRframe .nack .none).wf cfg0 = false := by decide
theorem test_wf_seed_rframe_undefined : (Instr.seedRframe .nack .undefined).wf cfg0 = false := by decide
theorem test_wf_seed_sframe : (Instr.seedSframe (.named .ifsReq) [0xFE#8]).wf cfg0 = true := by decide
theorem test_wf_seed_sframe_long (p : Bytes) (hp : p.length = 255) :
    (Instr.seedSframe (.named .ifsReq) p).wf cfg0 = false := by simp [Instr.wf, hp, Config.shortLenMax]
theorem test_wf_dispatch_r : (Instr.dispatch (.r true .nack .none)).wf cfg0 = false := by decide
theorem test_wf_dispatch_s : (Instr.dispatch (.s .invalid [] none .none)).wf cfg0 = false ∧
    (Instr.dispatch (.s (.unknown 0x15#6) [] none .none)).wf cfg0 = false ∧
    (Instr.dispatch (.s (.named .resynchRsp) [] none .unknownSubtype)).wf cfg0 = false := by decide

/-! ## Decoding: words written out from R67, R68, R72 (and the vectors VD) -/

/-- What the decoder reads in the vectors' configuration. -/
def reads (v : Variant) (F : Bytes) (i : Instr) : Bool :=
  match decodeInstr cfg0 v .ese F with
  | .ok j => decide (j = i)
  | .error _ => false

/-- The error the decoder answers. -/
def refuses (v : Variant) (F : Bytes) (e : DecodeError) : Bool :=
  match decodeInstr cfg0 v .ese F with
  | .ok _ => false
  | .error d => decide (d = e)

/-- VD4, VD5, VD8, VD9, VD34. -/
theorem test_decode_i : reads .legacy [0xA5#8, 0x00#8, 0x00#8, 0x00#8] (.iShort false false []) = true ∧
    reads .legacy [0xA5#8, 0x00#8, 0x02#8, 0x90#8, 0x00#8, 0x92#8] (.iShort false false [0x90#8, 0x00#8]) = true ∧
    reads .extended [0xA5#8, 0x60#8, 0x01#8, 0xAB#8, 0xCA#8] (.iShort true true [0xAB#8]) = true ∧
    reads .legacy [0xA5#8, 0x1F#8, 0x01#8, 0xAB#8, 0xB5#8] (.iShort false false [0xAB#8]) = true ∧
    reads .legacy [0x00#8, 0x00#8, 0x02#8, 0x90#8, 0x00#8, 0x92#8] (.iShort false false [0x90#8, 0x00#8]) = true := by
  decide
/-- R67: the sequence bit is bit 6, the chaining bit is bit 5. -/
theorem test_decode_i_bits : reads .legacy [0xA5#8, 0x40#8, 0x00#8, 0x40#8] (.iShort true false []) = true ∧
    reads .legacy [0xA5#8, 0x20#8, 0x00#8, 0x20#8] (.iShort false true []) = true := by decide
/-- VD12. -/
theorem test_decode_i_ext :
    reads .extended [0xA5#8, 0x00#8, 0xFF#8, 0x00#8, 0x02#8, 0x90#8, 0x00#8, 0x6D#8] (.iExt false false [0x90#8, 0x00#8])
      = true ∧
    refuses .legacy [0xA5#8, 0x00#8, 0xFF#8, 0x00#8, 0x02#8, 0x90#8, 0x00#8, 0x6D#8] .malformed = true := by decide
/-- VD1 to VD3, VD6, VD7, VD10, VD11, VD13. -/
theorem test_decode_errors : refuses .legacy [] .malformed = true ∧ refuses .legacy [0xA5#8] .malformed = true ∧
    refuses .legacy [0xA5#8, 0x00#8, 0x00#8] .malformed = true ∧
    refuses .legacy [0xA5#8, 0x00#8, 0x02#8, 0x90#8, 0x00#8, 0x93#8] .checksumMismatch = true ∧
    refuses .legacy [0xA5#8, 0x00#8, 0x02#8, 0x91#8, 0x00#8, 0x92#8] .checksumMismatch = true ∧
    refuses .legacy [0xA5#8, 0x00#8, 0x03#8, 0x90#8, 0x00#8, 0x93#8] .malformed = true ∧
    refuses .legacy [0xA5#8, 0x00#8, 0x01#8, 0x90#8, 0x00#8, 0x91#8] .malformed = true ∧
    refuses .extended [0xA5#8, 0x00#8, 0xFF#8, 0x00#8, 0xFF#8] .malformed = true := by decide
/-- VD14 to VD18. -/
theorem test_decode_r : reads .legacy [0xA5#8, 0x80#8, 0x00#8, 0x80#8] (.rAck false) = true ∧
    reads .legacy [0xA5#8, 0x90#8, 0x00#8, 0x90#8] (.rAck true) = true ∧
    reads .legacy [0xA5#8, 0x81#8, 0x00#8, 0x81#8] (.rNackParity false) = true ∧
    reads .legacy [0xA5#8, 0x92#8, 0x00#8, 0x92#8] (.rNackOther true) = true ∧
    reads .legacy [0xA5#8, 0x83#8, 0x00#8, 0x83#8] (.rNackMissing false) = true := by decide
/-- VD19 to VD23. -/
theorem test_decode_r_undefined : reads .legacy [0xA5#8, 0xA0#8, 0x00#8, 0xA0#8] (.rUndefBit5 false) = true ∧
    reads .legacy [0xA5#8, 0x84#8, 0x00#8, 0x84#8] (.rUndefBit2 false) = true ∧
    reads .legacy [0xA5#8, 0x98#8, 0x00#8, 0x98#8] (.rUndefBit3 true) = true ∧
    reads .legacy [0xA5#8, 0xBF#8, 0x00#8, 0xBF#8] (.rUndefBit5 true) = true ∧
    refuses .legacy [0xA5#8, 0x80#8, 0x01#8, 0x00#8, 0x81#8] .malformed = true := by decide
/-- The request PCBs of R72; the LRC of an empty S-frame is its PCB. -/
theorem test_decode_s_requests : reads .legacy [0xA5#8, 0xC0#8, 0x00#8, 0xC0#8] (.sResynchReq []) = true ∧
    reads .legacy [0xA5#8, 0xC1#8, 0x01#8, 0xFE#8, 0x3E#8] (.sIfsReq [0xFE#8]) = true ∧
    reads .legacy [0xA5#8, 0xC2#8, 0x00#8, 0xC2#8] (.sAbortReq []) = true ∧
    reads .legacy [0xA5#8, 0xC3#8, 0x01#8, 0x01#8, 0xC3#8] (.sWtxReq [0x01#8]) = true ∧
    reads .legacy [0xA5#8, 0xC5#8, 0x01#8, 0x77#8, 0xB3#8] (.sEndOfSessionReq [0x77#8]) = true ∧
    reads .legacy [0xA5#8, 0xC6#8, 0x00#8, 0xC6#8] (.sHardResetReq []) = true ∧
    reads .legacy [0xA5#8, 0xC7#8, 0x00#8, 0xC7#8] (.sAtrReq []) = true ∧
    reads .legacy [0xA5#8, 0xCF#8, 0x00#8, 0xCF#8] (.sIntfResetReq []) = true := by decide
/-- The response PCBs of R72 (VD24, VD26, VD27, VD33). -/
theorem test_decode_s_responses : reads .legacy [0xA5#8, 0xE0#8, 0x00#8, 0xE0#8] (.sResynchRsp []) = true ∧
    reads .legacy [0xA5#8, 0xE1#8, 0x02#8, 0x01#8, 0x2C#8, 0xCE#8] (.sIfsRsp [0x01#8, 0x2C#8]) = true ∧
    reads .legacy [0xA5#8, 0xE2#8, 0x00#8, 0xE2#8] (.sAbortRsp []) = true ∧
    reads .legacy [0xA5#8, 0xE3#8, 0x01#8, 0x01#8, 0xE3#8] (.sWtxRsp [0x01#8]) = true ∧
    reads .legacy [0xA5#8, 0xE5#8, 0x00#8, 0xE5#8] (.sEndOfSessionRsp []) = true ∧
    reads .legacy [0xA5#8, 0xE6#8, 0x00#8, 0xE6#8] (.sHardResetRsp []) = true ∧
    reads .legacy [0xA5#8, 0xE7#8, 0x00#8, 0xE7#8] (.sAtrRsp []) = true ∧
    reads .legacy [0xA5#8, 0xEF#8, 0x03#8, 0x0A#8, 0x01#8, 0x2C#8, 0xCB#8] (.sIntfResetRsp [0x0A#8, 0x01#8, 0x2C#8])
      = true := by decide
/-- VD28 to VD32. -/
theorem test_decode_s_unknown : reads .legacy [0xA5#8, 0xD5#8, 0x00#8, 0xD5#8] (.sUnknown 0x15#6 []) = true ∧
    reads .legacy [0xA5#8, 0xC4#8, 0x00#8, 0xC4#8] (.sUnknown 0x04#6 []) = true ∧
    reads .extended [0xA5#8, 0xFF#8, 0x00#8, 0xFF#8] (.sUnknown 0x3F#6 []) = true ∧
    refuses .legacy [0xA5#8, 0xC0#8, 0x00#8, 0x00#8, 0x00#8, 0xC0#8] .malformed = true ∧
    refuses .extended [0xA5#8, 0xC0#8, 0xFF#8, 0x3F#8] .malformed = true := by decide
/-- R122: with the check on, an unexpected address is malformed. -/
theorem test_decode_address :
    decodeFrame { cfg0 with rxAddrCheck := true } .legacy .ese [0x00#8, 0x00#8, 0x00#8, 0x00#8] = .error .malformed ∧
    decodeFrame { cfg0 with rxAddrCheck := true } .legacy .ese [0xA5#8, 0x00#8, 0x00#8, 0x00#8] =
      .frame (.i false false []) := by decide
/-- The table's words: the PCB in bits 7..0, the length byte in bits 15..8. -/
theorem test_decode_table : decodeTableWord 8 0x60 = some (.iShort true true []) ∧
    decodeTableWord 8 0x93 = some (.rNackMissing true) ∧ decodeTableWord 8 0xEF = some (.sIntfResetRsp []) ∧
    decodeTableWord 16 0xFF00 = some (.iExt false false []) := by decide

/-! ## The codec and the LRC -/

/-- The frame an encode operation leaves in `TXF`. -/
def txfIs (r : Result) (F : Bytes) : Bool := nextHas r fun t => decide (t.txf = F ∧ t.ret = .frameBytes F)

/-- VL3, VL4, and the example of R91. -/
theorem test_compute_lrc : nextHas (exec (.computeLrc [0x5A#8, 0x80#8, 0x00#8, 0xEE#8] 0 3) base)
      (fun t => decide (t.ret = .byte 0xDA#8)) = true ∧
    nextHas (exec (.computeLrc [0x5A#8, 0x00#8, 0x04#8, 0x00#8, 0xA4#8, 0x04#8, 0x00#8] 1 7) base)
      (fun t => decide (t.ret = .byte 0xA4#8)) = true := by decide
/-- R93's example. -/
theorem test_check_lrc : nextHas (exec (.checkLrc [0xA5#8, 0x00#8, 0x02#8, 0x90#8, 0x00#8, 0x92#8]) base)
      (fun t => decide (t.ret = .bool true)) = true ∧
    nextHas (exec (.checkLrc [0xA5#8, 0x00#8, 0x02#8, 0x90#8, 0x00#8, 0x93#8]) base)
      (fun t => decide (t.ret = .bool false)) = true := by decide
/-- VI1. -/
theorem test_encode_iframe : txfIs (exec (.encodeIframe started.ntx) base)
    [0x5A#8, 0x00#8, 0x04#8, 0x00#8, 0xA4#8, 0x04#8, 0x00#8, 0xA4#8] = true := by decide
/-- VI1 with `LRC_ENC_FROM = 0`. -/
theorem test_encode_iframe_from0 :
    txfIs (exec (.encodeIframe started.ntx) { base with cfg := { cfg0 with lrcEncFrom := 0 } })
      [0x5A#8, 0x00#8, 0x04#8, 0x00#8, 0xA4#8, 0x04#8, 0x00#8, 0xFE#8] = true := by decide
/-- VR4, VR6. -/
theorem test_encode_rframe : txfIs (exec (.encodeRframe .nack .missing false) base) [0x5A#8, 0x83#8, 0x00#8, 0x83#8]
    = true ∧ txfIs (exec (.encodeRframe .nack .parity true) base) [0x5A#8, 0x91#8, 0x00#8, 0x91#8] = true := by decide
/-- VS12, VS14. -/
theorem test_encode_sframe :
    txfIs (exec (.encodeSframe (.named .ifsReq) [0x01#8, 0x2C#8]) base)
      [0x5A#8, 0xC1#8, 0x02#8, 0x01#8, 0x2C#8, 0xEE#8] = true ∧
    txfIs (exec (.encodeSframe (.named .endOfSessionReq) [0x77#8]) base) [0x5A#8, 0xC5#8, 0x01#8, 0x77#8, 0xB3#8] = true := by
  decide
/-- VS18. -/
theorem test_encode_lock : txfIs (exec (.encodeLock base.ntx) base) [0x5A#8, 0x40#8, 0x00#8, 0x40#8] = true := by decide
/-- VD33: the ATR fields are those of `parse_atr`. -/
theorem test_decode_operation : ∃ t, exec (.decode [0xA5#8, 0xEF#8, 0x03#8, 0x0A#8, 0x01#8, 0x2C#8, 0xCB#8]) base =
    .next t ∧ t.ret = .decoded (.frame (.s (.named .intfResetRsp) [0x0A#8, 0x01#8, 0x2C#8]
      (some (Config.parseAtr [0x0A#8, 0x01#8, 0x2C#8])) .none)) := ⟨_, rfl, rfl⟩

/-! ## Single steps (VQ, VH and the examples of the rules) -/

/-- The step from `started` with one answer. -/
def answered (F : Bytes) : Result := step (script [.ok] [.bytes F] started)

/-- VQ1, VQ2. -/
theorem test_step_new_iframe :
    nextHas (answered [0xA5#8, 0x00#8, 0x02#8, 0x90#8, 0x00#8, 0x92#8])
      (fun t => decide (t.pstate = .idle ∧ t.rxc.iSeq = false ∧ t.rlist = [[0x90#8, 0x00#8]])) = true ∧
    nextHas (answered [0xA5#8, 0x20#8, 0x02#8, 0xDE#8, 0xAD#8, 0x51#8])
      (fun t => decide (t.pstate = .sendRAck ∧ t.ntx.r = { kind := .ack, err := .none, seq := true } ∧
        t.rlist = [[0xDE#8, 0xAD#8]])) = true := by decide
/-- VQ3. -/
theorem test_step_duplicate : nextHas (answered [0xA5#8, 0x40#8, 0x02#8, 0x6F#8, 0x00#8, 0x2D#8])
    (fun t => decide (t.cause = .sequenceMismatch ∧ t.pstate = .sendRNack ∧
      t.ntx.r = { kind := .nack, err := .other, seq := false } ∧ t.sv.recoveryCounter = 1 ∧ t.rlist = [] ∧
      t.trace.head? = some (.slept 1))) = true := by decide
/-- VQ4, VQ5, VQ7. -/
theorem test_step_failures :
    nextHas (answered [0xA5#8, 0x00#8, 0x02#8, 0x90#8, 0x00#8, 0x6D#8]) (fun t => decide (t.cause = .checksumMismatch ∧
      t.pstate = .sendRNack ∧ t.ntx.r = { kind := .nack, err := .parity, seq := false } ∧
      t.sv.rnackRetryCounter = 1)) = true ∧
    nextHas (step (script [.ok] [.timeout] started)) (fun t => decide (t.cause = .timeout ∧ t.pstate = .sendRNack)) =
      true ∧
    nextHas (step (script [.ioError] [] started)) (fun t => decide (t.cause = .ioFailure ∧ t.status = .ioFailure ∧
      t.pstate = .idle ∧ t.ltx.ftype = .none ∧ t.ltx.i.seq = true)) = true := by decide
/-- VQ8, VQ9, VQ10. -/
theorem test_step_retransmits : ([[0xA5#8, 0x81#8, 0x00#8, 0x81#8], [0xA5#8, 0x90#8, 0x00#8, 0x90#8],
      [0xA5#8, 0xA0#8, 0x00#8, 0xA0#8]] : List Bytes).all (fun F => nextHas (answered F) fun t =>
        decide (t.cause = .sequenceMismatch ∧ t.ntx = t.ltx ∧ t.pstate = .sendIframe ∧ t.ntx.i.seq = false ∧
          t.sv.recoveryCounter = 1)) = true := by decide
/-- VQ11, VQ12. -/
theorem test_step_wtx : nextHas (answered [0xA5#8, 0xC3#8, 0x01#8, 0x01#8, 0xC3#8]) (fun t => decide
      (t.sv.wtxCounter = 1 ∧ t.pstate = .sendSWtxResponse ∧
        t.ntx.s = { subtype := .named .wtxRsp, payload := [0x01#8] })) = true ∧
    nextHas (exec (.sWtxReq []) { sent with sv := { sent.sv with wtxCounterLimit := 1 } }) (fun t => decide
      (t.sv.wtxCounter = 1 ∧ t.status = .transceiveFailed ∧ t.pstate = .idle)) = true := by decide
/-- VQ14, VQ15, and the replay in an S-frame exchange. -/
theorem test_step_unexpected_s : nextHas (answered [0xA5#8, 0xD5#8, 0x00#8, 0xD5#8]) (fun t => decide
      (t.cause = .unknownSubtype ∧ t.pstate = .sendRNack ∧ t.sv.recoveryCounter = 1)) = true ∧
    nextHas (exec (.sAbortReq []) resyncSent) (fun t => decide
      (t.cause = .sequenceMismatch ∧ t.pstate = .sendSResync ∧ t.sv.recoveryCounter = 1)) = true := by decide
/-- R185's example. -/
theorem test_advance : nextHas (exec (.rAck true) chainSent) (fun t => decide (t.pstate = .sendIframe ∧
    t.ntx.i.offset = 4 ∧ t.ntx.i.remaining = 6 ∧ t.ntx.i.fragLen = 4 ∧ t.ntx.i.chained = true ∧
    t.ntx.i.seq = true)) = true := by decide
/-- VH8's and VH11's answers. -/
theorem test_ifs_response : nextHas (exec (.sIfsRsp [0x01#8, 0x2C#8]) { sent with variant := .extended })
      (fun t => decide (t.sv.ifsCurrent = 300 ∧ t.ntx.i.maxLen = 300)) = true ∧
    nextHas (exec (.sIfsRsp []) sent) (fun t => decide (t.sv.ifsCurrent = 254)) = true := by decide
/-- VH1, VH3, VH5 to VH7, VH12. -/
theorem test_parameters : nextHas (exec (.transceive (some { base := 1, len := 0 })) base)
      (fun t => decide (t.ret = .err .invalidParameter ∧ t.ntx = base.ntx)) = true ∧
    nextHas (exec (.transceive none) started) (fun t => decide (t.ret = .err .busy)) = true ∧
    [0, 255].all (fun n => nextHas (exec (.setIfs n) base) fun t => decide (t.ret = .err .invalidParameter)) = true ∧
    nextHas (exec .closeAllSessions base) (fun t => decide (t.ret = .err .invalidParameter)) = true := by decide
/-- VH4. -/
theorem test_get_ifs : nextHas (exec .getIfs base) (fun t => decide (t.ret = .okNat 254 ∧ t.top = .idle)) = true := by
  decide
/-- P6, step 5: the give-up path. -/
theorem test_give_up : nextHas (exec (.guarded .nackOther) { worn started with
      sv := { started.sv with recoveryCounter := 4 }, cause := .sequenceMismatch }) (fun t => decide
    (t.status = .recoveryExhausted ∧ t.cause = .sequenceMismatch ∧ t.ntx.i.seq = true ∧ t.pstate = .idle ∧
      t.sv.recoveryCounter = 0)) = true := by decide
/-- The word of the row R.ACK placed where the machine fetches: the very next step runs it. -/
theorem test_fetch_word : nextHas (step (base.withFetchWord 8 0x90)) (fun t => decide
    (t.rxc.ftype = .r ∧ t.rxc.rSeq = true ∧ t.cause = .sequenceMismatch ∧ t.pstate = .sendSResync)) = true := by decide

/-! ## The hypotheses of the statements are met

One theorem for each statement with hypotheses: the clauses of the statement in their order, at a boundary where
the clause has one. -/

/-- A context of a fragment. -/
def ctx (len offset fragLen : Nat) : TxCtx :=
  { base.ntx with i := { base.ntx.i with buf := some { base := 1, len := len }, offset := offset, fragLen := fragLen } }

/-- The extended variant. -/
def extended : State := { base with variant := .extended }

/-- The last frame sent was an S-frame with a subtype. -/
def lastS (sub : SSub) : State := { base with ltx := { base.ltx with ftype := .s, s := { subtype := sub, payload := [] } } }

/-- The last frame sent was an R-frame, with a fragment pending. -/
def lastR (kind : AckKind) : State :=
  { sent with ltx := { sent.ltx with
      ftype := .r, r := { kind := kind, err := (match kind with | .ack => .none | .nack => .other), seq := true } } }

theorem wit_ComputeLrcFoldsRange : 3 ≤ ([0x5A#8, 0x80#8, 0x00#8] : Bytes).length := by decide

theorem wit_CheckLrcComparesLastByte : 1 ≤ ([0xA5#8] : Bytes).length := by decide

theorem wit_EncodeIframeLayout :
    ((ctx 254 0 254).i.buf = some { base := 1, len := 254 } ∧ 1 ≤ (ctx 254 0 254).i.fragLen ∧
      (ctx 254 0 254).i.offset + (ctx 254 0 254).i.fragLen ≤ 254 ∧ (ctx 254 0 254).i.fragLen ≤ 254) ∧
    ((ctx 65536 1 65535).i.buf = some { base := 1, len := 65536 } ∧ 1 ≤ (ctx 65536 1 65535).i.fragLen ∧
      (ctx 65536 1 65535).i.offset + (ctx 65536 1 65535).i.fragLen ≤ 65536 ∧ extended.variant = .extended ∧
      (ctx 65536 1 65535).i.fragLen ≤ 65535) ∧
    base.ntx.i.buf = none ∧ (ctx 4 0 0).i.fragLen = 0 ∧ (254 < (ctx 255 0 255).i.fragLen ∧ base.variant = .legacy) ∧
    65535 < (ctx 65536 0 65536).i.fragLen := by decide

theorem wit_EncodeRframeLayout :
    (cfg0.rErrCode .none = some 0#2 ∧ ((AckKind.ack = .ack) ↔ (ErrClass.none = .none))) ∧
    (cfg0.rErrCode .missing = some 3#2 ∧ ((AckKind.nack = .ack) ↔ (ErrClass.missing = .none))) ∧
    ¬ ((AckKind.ack = .ack) ↔ (ErrClass.other = .none)) ∧ (ErrClass.undefined = .undefined) := by decide

theorem wit_EncodeSframeLayout (p q : Bytes) (hp : p.length = 254) (hq : q.length = 255) :
    (SSub.named .atrRsp = .named .atrRsp ∧ p.length ≤ 254) ∧ (SSub.invalid = .invalid) ∧
    (∃ c, SSub.unknown 0x15#6 = .unknown c) ∧ 254 < q.length := by
  refine ⟨⟨rfl, by omega⟩, rfl, ⟨_, rfl⟩, by omega⟩

theorem wit_DecodeTestsInOrder :
    ([0xA5#8, 0x00#8, 0x00#8] : Bytes).length < 4 ∧
    (4 ≤ ([0xA5#8, 0x00#8, 0x00#8, 0x01#8] : Bytes).length ∧
      checkLrc cfg0 [0xA5#8, 0x00#8, 0x00#8, 0x01#8] = false) ∧
    (4 ≤ ([0x00#8, 0x00#8, 0x00#8, 0x00#8] : Bytes).length ∧ checkLrc cfg0 [0x00#8, 0x00#8, 0x00#8, 0x00#8] = true ∧
      ({ cfg0 with rxAddrCheck := true } : Cfg).rxAddrCheck = true ∧
      ([0x00#8, 0x00#8, 0x00#8, 0x00#8] : Bytes).head? ≠ some (cfg0.addrRx .ese)) := by decide

/-- The frame of the clauses passes the tests before classification. -/
def passes (F : Bytes) : Bool := decide (4 ≤ F.length) && checkLrc cfg0 F && !cfg0.rxAddrCheck

theorem wit_DecodeIframeFields :
    (passes [0xA5#8, 0x00#8, 0x02#8, 0x90#8, 0x00#8, 0x92#8] = true ∧ bitOf 0x00#8 7 = false ∧
      (0x02#8 : Byte) ≠ 0xFF#8 ∧ ([0x90#8, 0x00#8, 0x92#8] : Bytes).length = (0x02#8 : Byte).toNat + 1) ∧
    (passes [0xA5#8, 0x00#8, 0x03#8, 0x90#8, 0x00#8, 0x93#8] = true ∧
      ([0x90#8, 0x00#8, 0x93#8] : Bytes).length ≠ (0x03#8 : Byte).toNat + 1) ∧
    passes [0xA5#8, 0x00#8, 0xFF#8, 0x00#8, 0xFF#8] = true ∧ ([0x00#8, 0xFF#8] : Bytes).length < 3 ∧
    (passes [0xA5#8, 0x00#8, 0xFF#8, 0x00#8, 0x02#8, 0x90#8, 0x00#8, 0x6D#8] = true ∧
      ([0x90#8, 0x00#8, 0x6D#8] : Bytes).length = 256 * (0x00#8 : Byte).toNat + (0x02#8 : Byte).toNat + 1) ∧
    (passes [0xA5#8, 0x00#8, 0xFF#8, 0x00#8, 0x02#8, 0x90#8, 0x6D#8] = true ∧
      ([0x90#8, 0x6D#8] : Bytes).length ≠ 256 * (0x00#8 : Byte).toNat + (0x02#8 : Byte).toNat + 1) := by decide

theorem wit_DecodeRframeFields : [cfg0.rErrNone, cfg0.rErrParity, cfg0.rErrOther, cfg0.rErrMissing].Nodup ∧
    (passes [0xA5#8, 0x80#8, 0x01#8, 0x00#8, 0x81#8] = true ∧ bitOf 0x80#8 7 = true ∧ bitOf 0x80#8 6 = false ∧
      (0x01#8 : Byte) ≠ 0x00#8) ∧
    (passes [0xA5#8, 0x84#8, 0x00#8, 0x84#8] = true ∧ (bitOf 0x84#8 5 || bitOf 0x84#8 3 || bitOf 0x84#8 2) = true) ∧
    (passes [0xA5#8, 0x83#8, 0x00#8, 0x83#8] = true ∧ (bitOf 0x83#8 5 || bitOf 0x83#8 3 || bitOf 0x83#8 2) = false ∧
      cfg0.rErrCode .missing = some 3#2 ∧ (0x83#8 : Byte).extractLsb' 0 2 = 3#2) := by decide

theorem wit_DecodeSframeFields : (SName.all.map cfg0.sCode6).Nodup ∧
    (passes [0xA5#8, 0xC0#8, 0xFF#8, 0x3F#8] = true ∧ bitOf 0xC0#8 7 = true ∧ bitOf 0xC0#8 6 = true) ∧
    (passes [0xA5#8, 0xEF#8, 0x00#8, 0xEF#8] = true ∧ cfg0.sCode6 .intfResetRsp = (0xEF#8 : Byte).extractLsb' 0 6) ∧
    (passes [0xA5#8, 0xD5#8, 0x00#8, 0xD5#8] = true ∧
      ∀ n ∈ SName.all, cfg0.sCode6 n ≠ (0xD5#8 : Byte).extractLsb' 0 6) := by decide

theorem wit_SeedIframeFirstFragment :
    ((none : Option BufRef) = none ∧ (0 : Nat) = 0 ∧ 2 ^ 32 ≤ 2 ^ 32) ∧
    ((some cmd : Option BufRef) ≠ none ∧ 1 ≤ 1 ∧ 1 < 2 ^ 32) ∧ (1 ≤ 2 ^ 32 - 1 ∧ 2 ^ 32 - 1 < 2 ^ 32) := by decide

theorem wit_NextIframeCtxAdvances : chainSent.ntx.i.chained = true ∧
    chainSent.ntx.i.fragLen ≤ chainSent.ntx.i.remaining := by decide

theorem wit_SeedSframeContext :
    (SName.wtxRsp, PState.sendSWtxResponse) ∈ [(SName.resynchReq, PState.sendSResync), (.ifsReq, .sendSIfsAdjust),
      (.wtxRsp, .sendSWtxResponse), (.atrReq, .sendSAtrRequest), (.intfResetReq, .sendSIntfReset),
      (.endOfSessionReq, .sendSEndOfSession), (.hardResetReq, .sendSHardReset)] ∧
    (SSub.invalid = .invalid) ∧
    SSub.named .abortReq ∈ [SName.resynchRsp, .ifsRsp, .abortReq, .abortRsp, .wtxReq, .endOfSessionRsp,
      .hardResetRsp, .atrRsp, .intfResetRsp].map SSub.named := by decide

theorem wit_FragmentsCarryTheCommand : 1 ≤ cmd.len ∧ cmd.len < 2 ^ 32 ∧ 1 ≤ base.sv.ifsCurrent ∧
    base.sv.ifsCurrent ≤ 65535 := by decide

theorem wit_RetryPolicyBranches : base.sv.rnackRetryCounter < base.sv.rnackRetryLimit ∧
    (let s := { base with sv := { base.sv with rnackRetryCounter := 2 } }
     s.sv.rnackRetryLimit ≤ s.sv.rnackRetryCounter) := by decide

theorem wit_GuardBranches : sent.sv.recoveryCounter < sent.cfg.frameRetryCount ∧
    (lastS (.named .resynchReq)).ltx.s.subtype = .named .resynchReq ∧
    nextHas (exec .retransmit sent) (fun _ => true) = true ∧
    (worn sent).cfg.frameRetryCount ≤ (worn sent).sv.recoveryCounter ∧
    (worn sent).sv.recoveryCounter = (worn sent).cfg.frameRetryCount ∧
    (let s := { sent with sv := { sent.sv with recoveryCounter := 4 } }
     s.cfg.frameRetryCount < s.sv.recoveryCounter) := by decide

theorem wit_RetransmitByLastSent : sent.ltx.ftype = .i ∧
    ({ base with ltx := { base.ltx with ftype := .lock } } : State).ltx.ftype = .lock ∧
    ((lastS (.named .wtxRsp)).ltx.ftype = .s ∧ (lastS (.named .wtxRsp)).ltx.s.subtype = .named .wtxRsp) ∧
    ((lastR .nack).ltx.ftype = .r ∧ (lastR .nack).ltx.i.buf ≠ none ∧ 1 ≤ (lastR .nack).ltx.i.fragLen ∧
      { (lastR .nack).rxc with rSeq := false }.rSeq = (lastR .nack).ltx.i.seq ∧ (lastR .nack).ltx.r.kind = .nack) ∧
    ((lastR .ack).rxc.rSeq ≠ (lastR .ack).ltx.i.seq ∧ (lastR .ack).ltx.r.kind = .ack) ∧
    (¬ (lastR .nack).rxc.rSeq = (lastR .nack).ltx.i.seq ∧ ¬ (lastR .nack).ltx.r.kind = .ack) ∧
    base.ltx.ftype = .none := by decide

theorem wit_OperationsStopByName :
    ((ctx 4 1 4).i.buf = some { base := 1, len := 4 } ∧ 1 ≤ (ctx 4 1 4).i.fragLen ∧
      4 < (ctx 4 1 4).i.offset + (ctx 4 1 4).i.fragLen ∧ (ctx 4 1 4).i.fragLen ≤ 254) ∧
    base.ntx.i.chained = false ∧
    (let x := { chainSent.ntx.i with remaining := 3 }
     x.chained = true ∧ x.remaining < x.fragLen) ∧
    (lastS .invalid).ltx.ftype = .s ∧ (lastS .invalid).ltx.s.subtype = .invalid ∧
    (lastS (.named .abortReq)).ltx.s.subtype ∈ [SName.resynchRsp, .ifsRsp, .abortReq, .abortRsp, .wtxReq,
      .endOfSessionRsp, .hardResetRsp, .atrRsp, .intfResetRsp].map SSub.named := by decide

theorem wit_RecoveryProcedureBranches : (worn sent).sv.recoveryCounter ≤ (worn sent).cfg.frameRetryCount ∧
    (let s := { sent with sv := { sent.sv with recoveryCounter := 4 } }
     s.cfg.frameRetryCount < s.sv.recoveryCounter) := by decide

theorem wit_NewIframeIsAccepted : false = !sent.rxc.iSeq ∧ ([] : Bytes) = [] := by decide

theorem wit_DuplicateIframeIsRefusedOnTheWire : true = sent.rxc.iSeq ∧
    sent.sv.recoveryCounter < sent.cfg.frameRetryCount := by decide

theorem wit_AdvancingAckPreparesNextFragment : chainSent.ltx.i.buf ≠ none ∧ chainSent.ltx.i.chained = true ∧
    true = !chainSent.ltx.i.seq ∧ chainSent.ntx.i = chainSent.ltx.i ∧
    chainSent.ntx.i.fragLen ≤ chainSent.ntx.i.remaining := by decide

/-- The hypotheses on the frame and the counter, for an R-frame with the bit `n`. -/
def plainR (s : State) (n : Bit) (k : AckKind) : Bool :=
  decide (¬ (k = .ack ∧ s.ltx.i.buf ≠ none ∧ s.ltx.i.chained = true ∧ n = !s.ltx.i.seq)) &&
    decide (s.sv.recoveryCounter < s.cfg.frameRetryCount)

theorem wit_OtherRframesRetransmit :
    (plainR sent false .nack = true ∧ sent.ltx.ftype = .i) ∧
    (plainR base true .ack = true ∧ ({ base with ltx := { base.ltx with ftype := .lock } } : State).ltx.ftype = .lock) ∧
    (plainR resyncSent true .ack = true ∧ resyncSent.ltx.ftype = .s ∧
      resyncSent.ltx.s.subtype = .named .resynchReq) ∧
    (plainR (lastR .nack) false .nack = true ∧ (lastR .nack).ltx.ftype = .r ∧ (lastR .nack).ltx.i.buf ≠ none ∧
      1 ≤ (lastR .nack).ltx.i.fragLen ∧ false = (lastR .nack).ltx.i.seq ∧ (lastR .nack).ltx.r.kind = .nack) ∧
    (plainR (lastR .ack) true .nack = true ∧ true ≠ (lastR .ack).ltx.i.seq ∧ (lastR .ack).ltx.r.kind = .ack) ∧
    (plainR (lastR .nack) true .nack = true ∧ ¬ true = (lastR .nack).ltx.i.seq ∧ ¬ (lastR .nack).ltx.r.kind = .ack) ∧
    (plainR base true .nack = true ∧ base.ltx.ftype = .none) := by decide

theorem wit_PlainResponsesTerminate : (Instr.sAbortRsp [], SName.abortRsp) ∈
    [(Instr.sResynchRsp [], SName.resynchRsp), (.sAbortRsp [], .abortRsp), (.sHardResetRsp [], .hardResetRsp),
      (.sEndOfSessionRsp [], .endOfSessionRsp)] := by decide

theorem wit_IfsResponseSetsTheBound :
    ((0xFE#8 : Byte).toNat = 254 ∧ 1 ≤ 254 ∧ sent.variant = .legacy ∧ 254 ≤ 254) ∧
    (256 * (0xFF#8 : Byte).toNat + (0xFF#8 : Byte).toNat = 65535 ∧ extended.variant = .extended) ∧
    (0x00#8 : Byte).toNat = 0 ∧ ((0xFF#8 : Byte).toNat = 255 ∧ 254 < 255 ∧ base.variant = .legacy) := by decide

theorem wit_AtrBearingResponses : (Instr.sAtrRsp [0x0A#8], SName.atrRsp) ∈
    [(Instr.sIntfResetRsp [0x0A#8], SName.intfResetRsp), (.sAtrRsp [0x0A#8], .atrRsp)] ∧
    ([] : Bytes) = [] ∧ ([0x0A#8] : Bytes) ≠ [] := by decide

theorem wit_WtxRequestCounts :
    (let s := { sent with sv := { sent.sv with wtxCounter := 1 } }
     s.sv.wtxCounter + 1 < s.sv.wtxCounterLimit) ∧
    (let s := { sent with sv := { sent.sv with wtxCounter := 2 } }
     s.sv.wtxCounterLimit ≤ s.sv.wtxCounter + 1) := by decide

theorem wit_UnexpectedSframesReplayOrNack :
    (resyncSent.sv.recoveryCounter < resyncSent.cfg.frameRetryCount ∧ resyncSent.ltx.ftype = .s ∧
      resyncSent.ltx.s.subtype = .named .resynchReq) ∧
    (sent.sv.recoveryCounter < sent.cfg.frameRetryCount ∧ sent.ltx.ftype ≠ .s) ∧
    (lastS (.named .wtxRsp)).ltx.s.subtype = .named .wtxRsp := by decide

theorem wit_RejectedFramesEscalate :
    (Instr.iShort true false []).toFrame = some (.i true false []) ∧ true = (worn sent).rxc.iSeq ∧
    (Instr.rNackOther true).toFrame = some (.r true .nack .other) ∧
    (Instr.sWtxRsp []).toFrame = some (.s (.named .wtxRsp) [] none .none) ∧
    (SName.abortReq.isRsp = false ∧ SName.abortReq ≠ .wtxReq) ∧
    (Instr.sUnknown 0x15#6 []).toFrame = some (.s (.unknown 0x15#6) [] none .unknownSubtype) ∧
    (worn sent).cfg.frameRetryCount = (worn sent).sv.recoveryCounter ∧
    (let s := { sent with sv := { sent.sv with recoveryCounter := 4 } }
     s.cfg.frameRetryCount < s.sv.recoveryCounter) := by decide

theorem wit_RejectedFramesAreNotApplied : (Instr.iShort true false []).toFrame = some (.i true false []) ∧
    (worn sent).sv.recoveryCounter ≤ (worn sent).cfg.frameRetryCount ∧ true = (worn sent).rxc.iSeq ∧
    nextHas (exec (.iShort true false []) (worn sent)) (fun _ => true) = true := by decide

theorem wit_PreconditionErrors : (Instr.close.isHostOp = true ∧ started.top ≠ .idle) ∧ base.top = .idle ∧
    ({ base := 1, len := 2 ^ 32 } : BufRef).len ≥ 2 ^ 32 ∧ base.sv.atr = none ∧ base.sv.ifsMax < 255 ∧
    ({ base with variant := .legacy } : State).variant = .legacy := by decide

theorem wit_ResettingOperationsStart : base.top = .idle ∧ base.variant = .legacy ∧ extended.top = .idle ∧
    extended.variant = .extended := by decide

/-- An ATR of the version the marker needs (R209). -/
def atr10 : AtrFields :=
  { vendorId := [], bwt := 0, bgt := 0, checksumMode := 0, osMode := .jcop, osVersion := 10, maxIfsc := 300, raw := [] }

theorem wit_ExchangeOperationsStart : base.top = .idle ∧ (1 ≤ cmd.len ∧ cmd.len < 2 ^ 32) ∧
    (({ base.sv with atr := some atr10 } : SessionVars).atr = some atr10 ∧ 10 ≤ atr10.osVersion) ∧
    (1 ≤ 254 ∧ 254 ≤ base.sv.ifsMax ∧ base.variant = .legacy) ∧
    (300 ≤ ({ base.sv with ifsMax := 300 } : SessionVars).ifsMax ∧ extended.variant = .extended) := by decide

theorem wit_ImmediateOperations : base.top = .idle ∧ base.ctl = .atRest := by decide

theorem wit_EndpointOperations : base.top = .idle ∧ base.epsel = .ese ∧
    ({ base with epsel := .euicc } : State).epsel = .euicc := by decide

/-- An operation whose `run` is over. -/
def runOver (k : Cont) (st : Status) : State := { base with ctl := .running k, top := .transceive, status := st }

theorem wit_OperationsFinish : (runOver (.transceive cmd) .ok).pstate = .idle ∧ (runOver (.transceive cmd) .ok).hostIn = [] ∧
    ((runOver (.transceive cmd) .ok).ctl = .running (.transceive cmd) ∧ (runOver (.transceive cmd) .ok).status = .ok) ∧
    (runOver (.transceive cmd) .ioFailure).status = .ioFailure ∧ (runOver .resetAtr .ok).ctl = .running .resetAtr ∧
    (runOver .close .ok).ctl = .running .close ∧ (runOver .getAtr .ioFailure).status ≠ .ok ∧
    (runOver .resetHard .ok).ctl = .running .resetHard ∧ (runOver .openHandshake .ok).ctl = .running .openHandshake ∧
    (let s := { runOver .openAtr .ok with sv := { base.sv with atr := some atr10 } }
     s.status = .ok ∧ s.sv.atr = some atr10 ∧ 1 ≤ atr10.maxIfsc) ∧
    (runOver .openAtr .ok).sv.atr = none := by decide

/-- The frame of EX1's command, as `started` sends it (VI1). -/
def ex1 : Bytes := [0x5A#8, 0x00#8, 0x04#8, 0x00#8, 0xA4#8, 0x04#8, 0x00#8, 0xA4#8]

theorem wit_StepMakesOneExchange : base.pstate = .idle ∧ started.pstate ≠ .idle ∧
    sendStateAgrees started.pstate started.ntx = true ∧ sendingOp started = some (.encodeIframe started.ntx) ∧
    nextHas (exec (.encodeIframe started.ntx) started) (fun u => decide (u.ret = .frameBytes ex1)) = true ∧
    (script [.ioError] [] started).sendScript = .ioError :: [] ∧
    ((script [.ok] [.timeout] started).sendScript = .ok :: [] ∧
      (script [.ok] [.timeout] started).recvScript = .timeout :: []) ∧
    decodeFrame cfg0 .legacy .ese [] = .error .malformed ∧
    decodeFrame cfg0 .legacy .ese [0xA5#8, 0x00#8, 0x00#8, 0x00#8] = .frame (.i false false []) := by decide

/-- A new I-frame, the last of a response, answers the command (R182). -/
theorem wit_StepCompletes :
    (let s := script [.ok] [.bytes [0xA5#8, 0x00#8, 0x00#8, 0x00#8]] started
     s.pstate ≠ .idle ∧ sendStateAgrees s.pstate s.ntx = true ∧
      (s.ntx.i.buf = some cmd ∧ 1 ≤ s.ntx.i.fragLen ∧ s.ntx.i.offset + s.ntx.i.fragLen ≤ cmd.len ∧
        s.ntx.i.fragLen ≤ 254) ∧
      s.pstate ≠ .sendRNack ∧
      (s.pstate ≠ .sendSIfsAdjust ∧ s.pstate ≠ .sendSEndOfSession ∧ s.pstate ≠ .sendSWtxResponse) ∧
      s.ntx.i.fragLen ≤ s.ntx.i.remaining ∧
      s.sendScript = .ok :: [] ∧ s.recvScript = .bytes [0xA5#8, 0x00#8, 0x00#8, 0x00#8] :: [] ∧
      false = !s.rxc.iSeq) ∧
    decodeFrame cfg0 .legacy .ese [0xA5#8, 0x00#8, 0x00#8, 0x00#8] = .frame (.i false false []) := by decide

theorem wit_StepIsHalfDuplex : (script [.ok] [.timeout] started).pstate ≠ .idle ∧
    nextHas (exec .step (script [.ok] [.timeout] started)) (fun _ => true) = true := by decide

theorem wit_RunDrivesToIdle : (started.ctl = .running (.transceive cmd) ∧ started.hostIn = [] ∧ started.pstate ≠ .idle) ∧
    (base.ctl = .atRest ∧ Cont.bare = .bare) ∧
    ((runOver .bare .ok).ctl = .running .bare ∧ (runOver .bare .ok).hostIn = [] ∧ (runOver .bare .ok).pstate = .idle) := by decide

theorem wit_StepRunsDecodedInstruction :
    (let s := { script [.ok] [.bytes [0xA5#8, 0x90#8, 0x00#8, 0x90#8]] started with hostIn := [.quiet] }
     s.hostIn = .quiet :: [] ∧ s.ctl = .running (.transceive cmd) ∧ s.pstate ≠ .idle ∧
      sendStateAgrees s.pstate s.ntx = true ∧ sendingOp s = some (.encodeIframe started.ntx) ∧
      nextHas (exec (.encodeIframe started.ntx) s) (fun u => decide (u.ret = .frameBytes ex1)) = true ∧
      s.sendScript = .ok :: [] ∧ s.recvScript = .bytes [0xA5#8, 0x90#8, 0x00#8, 0x90#8] :: []) ∧
    reads .legacy [0xA5#8, 0x90#8, 0x00#8, 0x90#8] (.rAck true) = true := by decide

theorem wit_HostEventsAtATransition : (base.hostIn = [] ∧ base.ctl = .atRest) ∧
    (({ base with hostIn := [.quiet] } : State).hostIn = .quiet :: []) ∧
    (Instr.close.hostCallable = true ∧ Instr.giveUp.hostCallable = false) ∧
    (let s := { started with hostIn := [.store 4 0x01#8] }
     s.hostIn = .store 4 0x01#8 :: [] ∧ s.top ≠ .idle ∧ s.ctl = .running (.transceive cmd) ∧ cmd.base ≤ 4 ∧
      4 < cmd.base + cmd.len ∧ Memory.read s.mem 4 ≠ 0x01#8) ∧
    (¬ (5 < cmd.base + cmd.len) ∧ Memory.wf started.mem = true) ∧ Memory.read started.mem 2 = 0xA4#8 := by decide

/-- Where R169 and R101 fail by the rules' own steps (log entry 15): R191 makes the variant legacy and leaves
`ifs_current` at 300, R140 takes it as the fragment's size, and R101 then raises. -/
theorem test_legacy_after_intf_reset :
    (let s := { base with variant := .extended, sv := { base.sv with ifsCurrent := 300, ifsMax := 300 } }
     let t := after (exec (.sIntfResetRsp []) s) s
     let u := after (exec (.transceive (some { base := 1, len := 300 })) t) t
     t.variant = .legacy ∧ t.sv.ifsCurrent = 300 ∧ sendStateAgrees u.pstate u.ntx = true ∧
      refusedBy (step u) .encoderRaised = true) := by decide

/-- R281: the command may not change before `transceive` returns, be it that the block gave up and let go of it. -/
theorem test_store_after_give_up :
    (let s := after (exec .giveUp started) started
     s.ntx.i.buf = none ∧ s.ltx.i.buf = none ∧
      refusedBy (step { s with hostIn := [.store 4 0x01#8] }) .bufferChangedInUse = true ∧
      nextHas (step { s with hostIn := [.store 5 0x01#8] }) (fun u => decide (Memory.read u.mem 5 = 0x01#8)) = true) := by
  decide

theorem wit_LrcLaws : (1 ≤ 2 ∧ 2 ≤ 3) ∧ lrc [0x5A#8, 0x80#8] 1 2 = 0x80#8 ∧
    ((0x91#8 : Byte) ≠ [0xA5#8, 0x00#8, 0x90#8][2] ∧ 1 ≤ 2) ∧
    (checkLrc cfg0 [0xA5#8, 0x00#8, 0x02#8, 0x90#8, 0x00#8, 0x92#8] = true ∧ cfg0.lrcDecFrom.val ≤ 1 ∧ 4 + 1 < 6) ∧
    (0 < 1 ∧ 1 ≤ 1) := by decide

theorem wit_EncodedFramesShape :
    (Instr.iExt true false [0x01#8]).toFrame = some (.i true false [0x01#8]) ∧
    encode cfg0 0x5A#8 (.iExt true false [0x01#8]) =
      some [0x5A#8, 0x40#8, 0xFF#8, 0x00#8, 0x01#8, 0x01#8, 0xBF#8] ∧
    (Instr.rAck true).toFrame = some (.r true .ack .none) ∧
    encode cfg0 0x5A#8 (.rAck true) = some [0x5A#8, 0x90#8, 0x00#8, 0x90#8] := by decide

theorem wit_DecodeEncodeRoundTrip : cfg0.wf ∧ (Instr.sUnknown 0x3F#6 []).wf cfg0 = true ∧
    encode cfg0 0xA5#8 (.sUnknown 0x3F#6 []) = some [0xA5#8, 0xFF#8, 0x00#8, 0xFF#8] ∧
    cfg0.lrcEncFrom = cfg0.lrcDecFrom ∧ (cfg0.rxAddrCheck = true → 0xA5#8 = cfg0.addrRx .ese) ∧
    (Instr.iExt true false []).wf cfg0 = true ∧ Variant.extended = .extended := by decide

/-- The tests' start state satisfies the invariant. -/
theorem wit_InvIsKeptByEveryStep : base.Inv ∧ nextHas (step base) (fun _ => true) = true := by
  refine ⟨⟨by decide, by decide, ?_, ?_, ?_, by decide, by decide, fun h => absurd rfl h, ?_, by decide, by decide,
    by decide, ?_, ?_, ?_⟩, by decide⟩
  · unfold svOk; decide
  · unfold txOk rrecOk; decide
  · unfold txOk rrecOk; decide
  · intro b hb; cases hb
  · intro b hb; rcases hb with hb | hb <;> cases hb
  · unfold snapOk svOk txOk rrecOk; decide
  · unfold snapOk svOk txOk rrecOk; decide

/-- The state inside `transceive` satisfies the invariant. -/
theorem started_inv (ss : List SendAnswer) (rs : List RecvAnswer) : (script ss rs started).Inv := by
  refine ⟨(by decide : started.cfg.wf), (by decide : Memory.wf started.mem = true), ?_, ?_, ?_,
    (by decide : sendStateAgrees started.pstate started.ntx = true),
    (by decide : started.pstate = .sendIframe → started.ntx.i.buf.isSome = true), ?_, ?_,
    (by decide : started.top = .idle ↔ started.ctl = .atRest),
    (by decide : started.top = .idle → started.pstate = .idle),
    (by decide : started.ctl ≠ .running .bare), ?_, ?_, ?_⟩
  · show svOk started.cfg started.sv
    unfold svOk; decide
  · show txOk started.ntx
    unfold txOk rrecOk; decide
  · show txOk started.ltx
    unfold txOk rrecOk; decide
  · intro _ b hb
    cases hb
    show started.ntx.i.offset + started.ntx.i.remaining = 4 ∧ 4 < Config.lenLimit ∧ 1 ≤ started.ntx.i.fragLen ∧
      started.ntx.i.fragLen ≤ started.ntx.i.remaining ∧ started.ntx.i.fragLen ≤ started.ntx.i.maxLen ∧
      started.ntx.i.maxLen ≤ Config.extLenMax ∧
      (started.ntx.i.chained = true ↔ started.ntx.i.maxLen < started.ntx.i.remaining) ∧
      (started.ntx.i.chained = true ↔ started.ntx.i.fragLen < started.ntx.i.remaining)
    decide
  · intro b hb
    cases hb
  · intro b hb
    rcases hb with hb | hb <;> cases hb
    rfl
  · show snapOk started.cfg started.epEse
    unfold snapOk svOk txOk rrecOk; decide
  · show snapOk started.cfg started.epEuicc
    unfold snapOk svOk txOk rrecOk; decide

theorem wit_StepsOfInvDoNotStop : (script [.ok] [.timeout] started).Inv ∧
    (script [.ok] [.timeout] started).hostIn = [] := ⟨started_inv _ _, by decide⟩

theorem wit_NoInstructionStores : nextHas (exec (.transceive (some cmd)) base) (fun _ => true) = true := by decide

theorem wit_StepWritesNoMode : Instr.giveUp.isHostOp = false ∧ Instr.giveUp.isCodecOp = false ∧
    Instr.giveUp ≠ .powerOnReset ∧ svOk base.cfg base.sv ∧
    nextHas (exec .giveUp base) (fun _ => true) = true := by unfold svOk; decide

theorem wit_ResetIsIdempotent :
    (let s := { script [.ok] [.bytes [0xA5#8, 0xE0#8, 0x00#8, 0xE0#8]] base with hostIn := [.call .reset] }
     s.top = .idle ∧ s.ctl = .atRest ∧ s.hostIn = [.call .reset] ∧ s.variant = .legacy ∧ s.sendScript = .ok :: [] ∧
      s.recvScript = .bytes [0xA5#8, 0xE0#8, 0x00#8, 0xE0#8] :: []) ∧
    reads .legacy [0xA5#8, 0xE0#8, 0x00#8, 0xE0#8] (.sResynchRsp []) = true ∧ extended.variant = .extended ∧
    reads .extended [0xA5#8, 0xE6#8, 0x00#8, 0xE6#8] (.sHardResetRsp []) = true ∧
    reads .extended [0xA5#8, 0xE7#8, 0x03#8, 0x0A#8, 0x01#8, 0x2C#8, 0xC3#8] (.sAtrRsp [0x0A#8, 0x01#8, 0x2C#8]) = true ∧
    ([0x0A#8, 0x01#8, 0x2C#8] : Bytes) ≠ [] := by decide

theorem wit_SilentPeerExhaustsTheRetries :
    (let s := script (List.replicate 3 .ok ++ []) (List.replicate 3 .timeout ++ []) started
     s.Inv ∧ s.hostIn = [] ∧ s.ctl = .running (.transceive cmd) ∧ s.pstate ≠ .idle ∧
      ¬ (s.pstate = .sendIframe ∧ s.variant = .legacy ∧ 254 < s.ntx.i.fragLen) ∧
      s.sv.rnackRetryLimit = s.sv.rnackRetryCounter + 2) := ⟨started_inv _ _, by decide⟩

theorem wit_WtxRequestsAreBounded :
    (let s := script (List.replicate 3 .ok ++ [])
        (List.replicate 3 (.bytes [0xA5#8, 0xC3#8, 0x01#8, 0x01#8, 0xC3#8]) ++ []) started
     s.Inv ∧ s.hostIn = [] ∧ s.ctl = .running (.transceive cmd) ∧ s.pstate ≠ .idle ∧
      ¬ (s.pstate = .sendIframe ∧ s.variant = .legacy ∧ 254 < s.ntx.i.fragLen) ∧
      s.sv.wtxCounterLimit = s.sv.wtxCounter + (2 + 1)) ∧
    reads .legacy [0xA5#8, 0xC3#8, 0x01#8, 0x01#8, 0xC3#8] (.sWtxReq [0x01#8]) = true :=
  ⟨⟨started_inv _ _, by decide⟩, by decide⟩

end Tests
end Sys2Proof
end

section
/-! The invariant `State.Inv` under the operations of the block: one rule per shared operation, then the receive
dispatch, the host operations and the transition of the machine. -/

namespace Sys2Proof
namespace Machine

/-! ## The session variables -/

theorem svOk_initialSv {c : Cfg} (hc : c.wf) : svOk c (initialSv c) := by
  obtain ⟨-, -, -, -, -, hpos, hshort, -, -⟩ := hc
  simp only [Config.shortLenMax] at hshort
  refine ⟨hpos, ?_, Nat.zero_le _, Nat.zero_le _, rfl, rfl, rfl⟩
  simp only [initialSv, Config.extLenMax]
  omega

theorem svOk.setRnack {c : Cfg} {v : SessionVars} {n : Nat} (h : svOk c v) (hn : n ≤ v.rnackRetryLimit) :
    svOk c { v with rnackRetryCounter := n } := by
  obtain ⟨hpos, hmax, -, hrest⟩ := h
  exact ⟨hpos, hmax, hn, hrest⟩

theorem svOk.setWtx {c : Cfg} {v : SessionVars} (h : svOk c v) (n : Nat) : svOk c { v with wtxCounter := n } := h

theorem svOk.setRecovery {c : Cfg} {v : SessionVars} {n : Nat} (h : svOk c v) (hn : n ≤ c.frameRetryCount + 1) :
    svOk c { v with recoveryCounter := n } := by
  obtain ⟨hpos, hmax, hrnack, -, hrest⟩ := h
  exact ⟨hpos, hmax, hrnack, hn, hrest⟩

theorem svOk.setIfs {c : Cfg} {v : SessionVars} {n : Nat} (h : svOk c v) (hpos : 1 ≤ n)
    (hmax : n ≤ Config.extLenMax) : svOk c { v with ifsCurrent := n } := by
  obtain ⟨-, -, hrest⟩ := h
  exact ⟨hpos, hmax, hrest⟩

theorem svOk.setAtr {c : Cfg} {v : SessionVars} (h : svOk c v) (a : Option AtrFields) (n : Nat) :
    svOk c { v with atr := a, ifsMax := n } := h

/-- The IFS value of a payload fits the two bytes it is read from (R190). -/
theorem ifsValue_le {p : Bytes} {v : Nat} (h : ifsValue p = some v) : v ≤ Config.extLenMax := by
  unfold ifsValue at h
  split at h
  · rename_i b
    cases h
    have := b.isLt
    simp only [Config.extLenMax]
    omega
  · rename_i hi lo
    cases h
    have := hi.isLt
    have := lo.isLt
    simp only [natOfBe16, Config.extLenMax]
    omega
  · cases h

/-! ## The transmit contexts -/

theorem tracks_of_no_buffer {x : IRec} (h : x.buf = none) : tracks x := by
  intro b hb
  rw [h] at hb
  cases hb

/-- The next fragment tracks the command that the last one tracked (R142, R150). -/
theorem tracks_nextFragment {x : IRec} (h : tracks x) (hc : x.chained = true) : tracks (nextFragment x) := by
  intro b hb
  obtain ⟨hlen, hlim, hpos, hrem, hmax, hext, -, hfrag⟩ := h b hb
  have hmore : x.fragLen < x.remaining := hfrag.mp hc
  simp only [nextFragment, decide_eq_true_eq]
  refine ⟨by omega, hlim, ?_, ?_, ?_, hext, trivial, ?_⟩ <;> split <;> omega

/-- The first fragment of a command tracks it (R140, R150). -/
theorem tracks_firstFragment {b : BufRef} {m : Nat} (seq : Bit) (hpos : 1 ≤ b.len) (hlim : b.len < Config.lenLimit)
    (hm : 1 ≤ m) (hext : m ≤ Config.extLenMax) :
    tracks { buf := some b, offset := 0, remaining := b.len, maxLen := m, chained := decide (m < b.len),
             fragLen := if m < b.len then m else b.len, seq := seq } := by
  intro b' hb
  cases hb
  simp only [decide_eq_true_eq]
  refine ⟨Nat.zero_add _, hlim, ?_, ?_, ?_, hext, trivial, ?_⟩ <;> split <;> omega

theorem txOk_initialTx (c : Cfg) : txOk (initialTx c) :=
  ⟨⟨⟨fun _ => rfl, fun _ => rfl⟩, nofun⟩, Nat.zero_le _⟩

/-- A context that the operation in progress may hold: it is consistent, it tracks its command, and the command is that
of a `transceive` in progress. -/
structure CtxOk (k : Ctl) (x : TxCtx) : Prop where
  ok : txOk x
  tracks : tracks x.i
  pending : ∀ b, x.i.buf = some b → k = .running (.transceive b)

/-- A context that `PSTATE` may send: `CtxOk`, the agreement of R169, and a command in the I-frame state. -/
structure Sendable (k : Ctl) (ps : PState) (x : TxCtx) : Prop where
  ctx : CtxOk k x
  agrees : sendStateAgrees ps x = true
  command : ps = .sendIframe → x.i.buf.isSome = true

theorem CtxOk.of_no_buffer {x : TxCtx} (k : Ctl) (hx : txOk x) (hb : x.i.buf = none) : CtxOk k x where
  ok := hx
  tracks := tracks_of_no_buffer hb
  pending := by
    intro b h
    rw [hb] at h
    cases h

/-- The state that sends a subtype agrees with every context of that subtype (R146, R163). -/
theorem sendStateAgrees_of_stateOfName {n : SName} {ps : PState} {x : TxCtx} (hn : stateOfName n = some ps)
    (hf : x.ftype = .s) (hs : x.s.subtype = .named n) : sendStateAgrees ps x = true := by
  cases n <;> cases hn <;> simp [sendStateAgrees, hf, hs]

theorem stateOfName_ne_sendIframe {n : SName} {ps : PState} (hn : stateOfName n = some ps) : ps ≠ .sendIframe := by
  rintro rfl
  cases n <;> cases hn

/-- An I-frame context with its command can be sent (R163). -/
theorem CtxOk.iframe {k : Ctl} {x : TxCtx} (h : CtxOk k x) (hb : x.i.buf.isSome = true) :
    Sendable k .sendIframe { x with ftype := .i } where
  ctx := { h with }
  agrees := rfl
  command := fun _ => hb

/-- An ACK context can be sent (R147, R163). -/
theorem CtxOk.ack {k : Ctl} {x : TxCtx} (h : CtxOk k x) (seq : Bit) :
    Sendable k .sendRAck { x with ftype := .r, r := { kind := .ack, err := .none, seq := seq } } where
  ctx := { h with ok := ⟨⟨⟨fun _ => rfl, fun _ => rfl⟩, nofun⟩, h.ok.2⟩ }
  agrees := rfl
  command := nofun

/-- A NACK context of a class that can be sent (R102, R147, R163). -/
theorem CtxOk.nack {k : Ctl} {x : TxCtx} (h : CtxOk k x) {err : ErrClass} (hnone : err ≠ .none)
    (hundef : err ≠ .undefined) (seq : Bit) :
    Sendable k .sendRNack { x with ftype := .r, r := { kind := .nack, err := err, seq := seq } } where
  ctx := { h with ok := ⟨⟨⟨nofun, fun he => absurd he hnone⟩, hundef⟩, h.ok.2⟩ }
  agrees := rfl
  command := nofun

/-- An S-frame context of a subtype that some state sends (R146, R163). -/
theorem CtxOk.sframe {k : Ctl} {x : TxCtx} (h : CtxOk k x) {n : SName} {ps : PState} {p : Bytes}
    (hn : stateOfName n = some ps) (hp : p.length ≤ Config.shortLenMax) :
    Sendable k ps { x with ftype := .s, s := { subtype := .named n, payload := p } } where
  ctx := { h with ok := ⟨h.ok.1, hp⟩ }
  agrees := sendStateAgrees_of_stateOfName hn rfl rfl
  command := fun hi => absurd hi (stateOfName_ne_sendIframe hn)

/-- An S-frame context already prepared is sent again by the state of its subtype (R239). -/
theorem CtxOk.replay {k : Ctl} {x : TxCtx} (h : CtxOk k x) {ps : PState} (hf : x.ftype = .s)
    (hs : stateOf x.s.subtype = some ps) : Sendable k ps x := by
  obtain ⟨n, hsub, hn, -⟩ := stateOf_cases hs
  exact
    { ctx := h
      agrees := sendStateAgrees_of_stateOfName hn hf hsub
      command := fun hi => absurd hi (stateOfName_ne_sendIframe hn) }

/-! ## The invariant: what each write of the block keeps -/

theorem snapOk_initialSnapshot {c : Cfg} (hc : c.wf) : snapOk c (initialSnapshot c) :=
  ⟨rfl, rfl, svOk_initialSv hc, txOk_initialTx c, txOk_initialTx c, rfl, rfl⟩

/-- A machine at rest whose active state is that of an idle block has the invariant. -/
theorem State.Inv.of_rest {s : State} (hcfg : s.cfg.wf) (hmem : Memory.wf s.mem = true) (hrest : s.ctl = .atRest)
    (hact : snapOk s.cfg (snapshot s)) (hese : snapOk s.cfg s.epEse) (heuicc : snapOk s.cfg s.epEuicc) : s.Inv := by
  obtain ⟨hp, htop, hsv, hntx, hltx, hnbuf, hlbuf⟩ := hact
  have hp : s.pstate = .idle := hp
  have htop : s.top = .idle := htop
  have hnbuf : s.ntx.i.buf = none := hnbuf
  have hlbuf : s.ltx.i.buf = none := hlbuf
  exact
    { cfg := hcfg, mem := hmem, sv := hsv, ntxOk := hntx, ltxOk := hltx, snapEse := hese, snapEuicc := heuicc
      agrees := by rw [hp]; rfl
      sendsCommand := by rw [hp]; nofun
      ntxTracks := fun h => absurd hp h
      ltxTracks := tracks_of_no_buffer hlbuf
      atRest := by simp [htop, hrest]
      idle := fun _ => hp
      notBare := by simp [hrest]
      released := by simp [hnbuf, hlbuf] }

/-- Outside `transceive` no context holds a command (R203). -/
theorem State.Inv.no_buffer {s : State} (h : s.Inv) (hk : ∀ b, s.ctl ≠ .running (.transceive b)) :
    s.ntx.i.buf = none ∧ s.ltx.i.buf = none :=
  ⟨Option.eq_none_iff_forall_ne_some.mpr fun b hb => hk b (h.released b (.inl hb)),
    Option.eq_none_iff_forall_ne_some.mpr fun b hb => hk b (h.released b (.inr hb))⟩

theorem State.Inv.no_buffer_idle {s : State} (h : s.Inv) (htop : s.top = .idle) :
    s.ntx.i.buf = none ∧ s.ltx.i.buf = none :=
  h.no_buffer (by simp [h.atRest.mp htop])

/-- The active state of an idle block can become a snapshot (R216). -/
theorem State.Inv.snapOk_snapshot {s : State} (h : s.Inv) (htop : s.top = .idle) : snapOk s.cfg (snapshot s) :=
  have ⟨hnbuf, hlbuf⟩ := h.no_buffer_idle htop
  ⟨h.idle htop, htop, h.sv, h.ntxOk, h.ltxOk, hnbuf, hlbuf⟩

/-- The context of the last frame sent is one the operation in progress may hold. -/
theorem State.Inv.ltxCtx {s : State} (h : s.Inv) : CtxOk s.ctl s.ltx :=
  ⟨h.ltxOk, h.ltxTracks, fun b hb => h.released b (.inr hb)⟩

/-- Outside `Idle` the context prepared is one the operation in progress may hold. -/
theorem State.Inv.ntxCtx {s : State} (h : s.Inv) (hp : s.pstate ≠ .idle) : CtxOk s.ctl s.ntx :=
  ⟨h.ntxOk, h.ntxTracks hp, fun b hb => h.released b (.inl hb)⟩

theorem State.Inv.setSv {s : State} (h : s.Inv) {v : SessionVars} (hv : svOk s.cfg v) : State.Inv { s with sv := v } :=
  { h with sv := hv }

/-- The exchange ends: `Idle` asks nothing of `NTX`. -/
theorem State.Inv.toIdle {s : State} (h : s.Inv) : State.Inv { s with pstate := .idle } :=
  { h with
    agrees := rfl
    sendsCommand := nofun
    ntxTracks := fun hp => absurd rfl hp
    idle := fun _ => rfl }

theorem State.Inv.endExchange {s : State} (h : s.Inv) (st : Status) : (endExchange st s).Inv := { h.toIdle with }

theorem State.Inv.terminate {s : State} (h : s.Inv) : (terminate s).Inv :=
  (h.setSv (h.sv.setRecovery (Nat.zero_le _))).toIdle

/-- Inside an operation any sendable context may be prepared. -/
theorem State.Inv.send {s : State} (h : s.Inv) (hbusy : s.top ≠ .idle) {ps : PState} {x : TxCtx}
    (hx : Sendable s.ctl ps x) : State.Inv { s with ntx := x, pstate := ps } :=
  { h with
    ntxOk := hx.ctx.ok
    agrees := hx.agrees
    sendsCommand := hx.command
    ntxTracks := fun _ => hx.ctx.tracks
    idle := fun htop => absurd htop hbusy
    released := fun b hb => hb.elim (hx.ctx.pending b) fun hl => h.released b (.inr hl) }

/-- The fragment bound is written while nothing is sent (R213). -/
theorem State.Inv.writeIfs {s : State} (h : s.Inv) (hp : s.pstate = .idle) {v : Nat} (hpos : 1 ≤ v)
    (hmax : v ≤ Config.extLenMax) : (writeIfs v s).Inv :=
  { h with
    sv := h.sv.setIfs hpos hmax
    agrees := by rw [writeIfs_pstate, hp]; rfl
    sendsCommand := by rw [writeIfs_pstate, hp]; nofun
    ntxTracks := fun hn => absurd hp hn }

theorem State.Inv.resetParams {s : State} (h : s.Inv) : (resetParams s).Inv :=
  { h with
    sv := svOk_initialSv h.cfg
    ntxOk := txOk_initialTx s.cfg
    ltxOk := txOk_initialTx s.cfg
    agrees := rfl
    sendsCommand := nofun
    ntxTracks := fun hp => absurd rfl hp
    ltxTracks := tracks_of_no_buffer rfl
    idle := fun _ => rfl
    released := by rintro b (hb | hb) <;> cases hb }

/-- The give-up path is a protocol reset that keeps the response and the cause (R242). -/
theorem State.Inv.giveUp {s : State} (h : s.Inv) : (giveUp s).Inv := { h.resetParams with }

theorem State.Inv.powerOn {s : State} (h : s.Inv) : (powerOn s).Inv :=
  .of_rest h.cfg h.mem rfl (snapOk_initialSnapshot h.cfg) (snapOk_initialSnapshot h.cfg)
    (snapOk_initialSnapshot h.cfg)

/-- A run begins with a sendable context, the last command released (R161, R200). -/
theorem State.Inv.start {s : State} (h : s.Inv) (hl : s.ltx.i.buf = none) {k : Cont} {ps : PState} {x : TxCtx}
    (hx : Sendable (.running k) ps x) (hk : k ≠ .bare) {mode : TopState} (hmode : mode ≠ .idle) (l : List Bytes) :
    (beginRun k { s with top := mode, rlist := l, ntx := x, pstate := ps }).Inv :=
  { h with
    ntxOk := hx.ctx.ok
    agrees := hx.agrees
    sendsCommand := hx.command
    ntxTracks := fun _ => hx.ctx.tracks
    atRest := ⟨fun htop => absurd htop hmode, nofun⟩
    idle := fun htop => absurd htop hmode
    notBare := by simpa using hk
    released := by
      rintro b (hb | hb)
      · exact hx.ctx.pending b hb
      · rw [beginRun_ltx, hl] at hb
        cases hb }

/-- `exchange_s` begins, where no context holds a command (R202). -/
theorem State.Inv.exchangeS {s : State} (h : s.Inv) (hb : s.ntx.i.buf = none ∧ s.ltx.i.buf = none) {mode : TopState}
    (hmode : mode ≠ .idle) {k : Cont} (hk : k ≠ .bare) {n : SName} {ps : PState} (hn : stateOfName n = some ps)
    {p : Bytes} (hp : p.length ≤ Config.shortLenMax) : (exchangeS k n p ps { s with top := mode }).Inv :=
  h.start hb.2 ((CtxOk.of_no_buffer _ h.ntxOk hb.1).sframe hn hp) hk hmode s.rlist

/-- The operation ends where nothing is sent and no context holds a command (R200, R203). -/
theorem State.Inv.endOp {s : State} (h : s.Inv) (hp : s.pstate = .idle)
    (hb : s.ntx.i.buf = none ∧ s.ltx.i.buf = none) (r : Ret) : (endOp r s).Inv :=
  .of_rest h.cfg h.mem rfl ⟨hp, rfl, h.sv, h.ntxOk, h.ltxOk, hb.1, hb.2⟩ h.snapEse h.snapEuicc

/-! ## The receive half of a step -/

/-- The state in which a frame is received or lost: the block is in a send state, and the frame it sent last is the
one prepared (R13, R149). -/
structure State.Exchanged (s : State) : Prop where
  inv : s.Inv
  busy : s.top ≠ .idle
  sending : s.pstate ≠ .idle
  sent : s.ltx = s.ntx

namespace State.Exchanged

/-- The writes of a send that succeeds and of the receive after it lead to such a state (R13, R160). -/
theorem of_received {s : State} (h : s.Inv) (hbusy : s.top ≠ .idle) (hp : s.pstate ≠ .idle) (F G : Bytes) :
    State.Exchanged { chRecv { chSend F s with txf := F, ltx := s.ntx } with rxf := G } where
  inv :=
    { h with
      ltxOk := h.ntxOk
      ltxTracks := h.ntxTracks hp
      released := fun b hb => h.released b (.inl (hb.elim id id)) }
  busy := hbusy
  sending := hp
  sent := rfl

theorem withCause {s : State} (h : s.Exchanged) (c : Cause) : (setCause c s).Exchanged :=
  { h with inv := { h.inv with } }

theorem withNote {s : State} (h : s.Exchanged) (e : ChEvent) : (note e s).Exchanged :=
  { h with inv := { h.inv with } }

theorem withSv {s : State} (h : s.Exchanged) {v : SessionVars} (hv : svOk s.cfg v) :
    State.Exchanged { s with sv := v } :=
  { h with inv := h.inv.setSv hv }

theorem withRecovery_zero {s : State} (h : s.Exchanged) : (setRecovery 0 s).Exchanged :=
  h.withSv (h.inv.sv.setRecovery (Nat.zero_le _))

theorem withRxc {s : State} (h : s.Exchanged) (x : RxCtx) : State.Exchanged { s with rxc := x } :=
  { h with inv := { h.inv with } }

theorem withRlist {s : State} (h : s.Exchanged) (l : List Bytes) : State.Exchanged { s with rlist := l } :=
  { h with inv := { h.inv with } }

theorem cleared {s : State} (h : s.Exchanged) (f : Frame) : (clearOnDecode f s).Exchanged := by
  have hrnack := h.inv.sv.setRnack (Nat.zero_le _)
  unfold clearOnDecode
  split
  · exact h.withSv hrnack
  · exact h.withSv (hrnack.setWtx 0)

/-- The context prepared may be prepared again as a frame of any kind. -/
theorem ctx {s : State} (h : s.Exchanged) : CtxOk s.ctl s.ntx := h.inv.ntxCtx h.sending

theorem send {s : State} (h : s.Exchanged) {ps : PState} {x : TxCtx} (hx : Sendable s.ctl ps x) :
    State.Inv { s with ntx := x, pstate := ps } :=
  h.inv.send h.busy hx

/-- The last frame sent was an I-frame, so its context holds the command. -/
theorem ltx_buffer {s : State} (h : s.Exchanged) (hf : s.ltx.ftype = .i) : s.ltx.i.buf.isSome = true := by
  rw [h.sent] at hf ⊢
  apply h.inv.sendsCommand
  have hagrees := h.inv.agrees
  cases hp : s.pstate with
  | idle => exact absurd hp h.sending
  | sendIframe => rfl
  | _ => simp [sendStateAgrees, hp, hf] at hagrees

/-- Every guarded action prepares a sendable context; the replay under the precondition of R239. -/
theorem guardedAction_sends {s t : State} (h : s.Exchanged) {a : GuardedAction}
    (ha : a = .replayS → s.ltx.ftype = .s) (ht : guardedAction a s = .next t) :
    ∃ ps x, Sendable s.ctl ps x ∧ t = { s with ntx := x, pstate := ps } := by
  have hltx : CtxOk s.ctl s.ltx := h.inv.ltxCtx
  have hnack := h.ctx.nack (err := .other) nofun nofun (!s.rxc.iSeq)
  rcases guardedAction_cases ht with rfl | ⟨-, hr⟩ | ⟨rfl, hr⟩
  · exact ⟨_, _, hnack, rfl⟩
  · rcases retransmit_cases hr with ⟨hf, rfl⟩ | ⟨hf, rfl⟩ | ⟨hf, ps, hps, rfl⟩ | ⟨-, hpend, -, -, rfl⟩ |
      ⟨hf, -, hkind, rfl⟩ | rfl
    · exact ⟨_, _, ⟨hltx, by simp [sendStateAgrees, hf], fun _ => h.ltx_buffer hf⟩, rfl⟩
    · exact ⟨_, _, ⟨hltx, by simp [sendStateAgrees, hf], by simp⟩, rfl⟩
    · exact ⟨_, _, hltx.replay hf hps, rfl⟩
    · have hbuf : s.ltx.i.buf ≠ none := ((ltxPending_iff s).mp hpend).1
      exact ⟨_, _, hltx.iframe (Option.isSome_iff_ne_none.mpr hbuf), rfl⟩
    · exact ⟨_, _, ⟨hltx, by simp [sendStateAgrees, hf, hkind], by simp⟩, rfl⟩
    · exact ⟨_, _, hnack, rfl⟩
  · obtain ⟨ps, hps, rfl⟩ := replayS_cases hr
    exact ⟨_, _, hltx.replay (ha rfl) hps, rfl⟩

theorem recoveryProcedure_inv {s : State} (h : s.Exchanged) : (recoveryProcedure s).Inv := by
  rcases recoveryProcedure_cases s with ⟨hle, heq⟩ | ⟨-, heq⟩ <;> rw [heq]
  · have hcount := h.withSv (h.inv.sv.setRecovery (Nat.succ_le_succ hle))
    exact { hcount.send (h.ctx.sframe (n := .intfResetReq) (p := []) rfl (Nat.zero_le _)) with }
  · exact h.inv.giveUp

theorem guarded_inv {s t : State} (h : s.Exchanged) {a : GuardedAction} (ha : a = .replayS → s.ltx.ftype = .s)
    (ht : guarded a s = .next t) : t.Inv := by
  rcases guarded_cases ht with ⟨hlt, u, hu, rfl⟩ | ⟨-, rfl⟩
  · obtain ⟨ps, x, hx, rfl⟩ := h.guardedAction_sends ha hu
    exact (h.withSv (h.inv.sv.setRecovery (Nat.le_succ_of_le hlt))).send hx
  · exact h.recoveryProcedure_inv

theorem retryPolicy_inv {s : State} (h : s.Exchanged) : (retryPolicy s).Inv := by
  rcases retryPolicy_cases s with ⟨hlt, heq⟩ | ⟨-, heq⟩ <;> rw [heq]
  · exact (h.withSv (h.inv.sv.setRnack hlt)).send (h.ctx.nack (err := .parity) nofun nofun _)
  · exact h.inv.endExchange _

/-! ### I-frames -/

theorem acceptI_inv {s : State} (h : s.Exchanged) (seq chained : Bit) (p : Bytes) :
    (acceptI seq chained p s).Inv := by
  have haccept := ((h.withRxc { s.rxc with iSeq := seq, iChained := chained }).withRlist
    (s.rlist ++ [p])).withRecovery_zero
  cases chained with
  | false => exact haccept.inv.toIdle
  | true => exact haccept.send (haccept.ctx.ack _)

theorem dispatchI_inv {s t : State} (h : s.Exchanged) {seq chained : Bit} {p : Bytes}
    (ht : dispatchI seq chained p s = .next t) : t.Inv := by
  unfold dispatchI at ht
  split at ht
  · cases ht
    exact h.acceptI_inv seq chained p
  · exact ((h.withCause _).withNote _).guarded_inv (by simp) ht

/-! ### R-frames -/

/-- An advancing ACK prepares the next fragment of the command that is pending (R184, R185). -/
theorem advanceFragment_inv {s t : State} (h : s.Exchanged) (hb : s.ltx.i.buf.isSome = true)
    (ht : advanceFragment s = .next t) : t.Inv := by
  unfold advanceFragment at ht
  split at ht
  · rename_i u hu
    cases ht
    obtain ⟨hchained, -, rfl⟩ := nextIframe_cases hu
    have hnext : CtxOk s.ctl { s.ntx with i := nextFragment s.ntx.i } :=
      { h.ctx with tracks := tracks_nextFragment h.ctx.tracks hchained }
    rw [h.sent] at hb
    exact h.withRecovery_zero.send (hnext.iframe hb)
  · cases ht
  · cases ht

theorem dispatchR_inv {s t : State} (h : s.Exchanged) {seq : Bit} {kind : AckKind} {err : ErrClass}
    (ht : dispatchR seq kind err s = .next t) : t.Inv := by
  have hrxc := h.withRxc { s.rxc with rSeq := seq, rErr := err }
  unfold dispatchR at ht
  dsimp only at ht
  split at ht
  · rename_i hack
    simp only [ackAdvances, Bool.and_eq_true] at hack
    obtain ⟨⟨⟨-, hbuf⟩, -⟩, -⟩ := hack
    exact hrxc.advanceFragment_inv hbuf ht
  · exact (hrxc.withCause _).guarded_inv (by simp) ht

/-! ### S-frames -/

theorem withVariant {s : State} (h : s.Exchanged) (v : Variant) : State.Exchanged { s with variant := v } :=
  { h with inv := { h.inv with } }

theorem wtxRequest_inv {s : State} (h : s.Exchanged) : (wtxRequest s).Inv := by
  have hcount := h.withSv (h.inv.sv.setWtx (s.sv.wtxCounter + 1))
  rcases wtxRequest_cases s with ⟨-, heq⟩ | ⟨-, heq⟩ <;> rw [heq]
  · exact (hcount.withNote _).send (h.ctx.sframe (n := .wtxRsp) (p := [s.cfg.wtxRspPayload]) rfl
      (show 1 ≤ Config.shortLenMax by decide))
  · exact hcount.inv.endExchange _

/-- An IFS response ends the exchange, so that the bound it writes meets no fragment being sent (R190). -/
theorem ifsResponse_inv {s : State} (h : s.Exchanged) (p : Bytes) : (ifsResponse p s).Inv := by
  unfold ifsResponse
  split
  · rename_i v hv
    split
    · rename_i hacc
      simp only [ifsAcceptable, Bool.and_eq_true, decide_eq_true_eq] at hacc
      have hwritten := h.inv.toIdle.writeIfs rfl hacc.1 (ifsValue_le hv)
      exact hwritten.setSv (hwritten.sv.setRecovery (Nat.zero_le _))
    · exact h.inv.terminate
  · exact h.inv.terminate

theorem applied_atr {s : State} (h : s.Exchanged) (atr : Option AtrFields) (p : Bytes) :
    (applyAtr atr p s).Exchanged := by
  cases atr with
  | none => exact h
  | some a => exact h.withSv (h.inv.sv.setAtr _ _)

theorem unexpectedS_inv {s t : State} (h : s.Exchanged) {c : Cause} (ht : unexpectedS c s = .next t) : t.Inv := by
  refine (h.withCause c).guarded_inv ?_ ht
  split
  · rename_i hlast
    simp only [lastSentNonWtxS, Bool.and_eq_true, decide_eq_true_eq] at hlast
    exact fun _ => hlast.1
  · exact nofun

theorem dispatchS_inv {s t : State} (h : s.Exchanged) {sub : SSub} {p : Bytes} {atr : Option AtrFields}
    (ht : dispatchS sub p atr s = .next t) : t.Inv := by
  have hrxc := h.withRxc { s.rxc with sSubtype := sub }
  cases sub with
  | unknown c => exact hrxc.unexpectedS_inv ht
  | invalid => exact hrxc.unexpectedS_inv ht
  | named n =>
    cases n with
    | wtxReq => cases ht; exact hrxc.wtxRequest_inv
    | resynchRsp | abortRsp | hardResetRsp | endOfSessionRsp => cases ht; exact hrxc.inv.terminate
    | ifsRsp => cases ht; exact hrxc.ifsResponse_inv p
    | intfResetRsp => cases ht; exact ((hrxc.withVariant _).applied_atr atr p).inv.terminate
    | atrRsp => cases ht; exact (hrxc.applied_atr atr p).inv.terminate
    | resynchReq | ifsReq | abortReq | wtxRsp | endOfSessionReq | hardResetReq | atrReq | intfResetReq =>
      exact hrxc.unexpectedS_inv ht

/-- The receive dispatch of any frame leads back into the invariant (R180). -/
theorem dispatch_inv {s t : State} (h : s.Exchanged) {f : Frame} (ht : dispatch f s = .next t) : t.Inv := by
  have hrxc (k : RxKind) : (setRxKind k (clearOnDecode f s)).Exchanged := (h.cleared f).withRxc _
  cases f with
  | i seq chained p => exact (hrxc .i).dispatchI_inv ht
  | r seq kind err => exact (hrxc .r).dispatchR_inv ht
  | s sub p atr w => exact (hrxc .s).dispatchS_inv ht

theorem dispatchWire_inv {s t : State} (h : s.Exchanged) {i : Instr} (ht : dispatchWire i s = .next t) : t.Inv := by
  unfold dispatchWire at ht
  split at ht
  · exact h.dispatch_inv ht
  · cases ht
    exact h.inv

end State.Exchanged

/-! ## One step of the sequencer -/

/-- What a receive that follows a successful send gives: a lost frame or a decoded one, in a state just after the
exchange. -/
theorem receiveFrame_exchanged {s : State} (h : s.Inv) (hbusy : s.top ≠ .idle) (hp : s.pstate ≠ .idle) (F : Bytes) :
    (∃ t, receiveFrame { chSend F s with txf := F, ltx := s.ntx } = .lost t ∧ t.Exchanged) ∨
    (∃ i t, receiveFrame { chSend F s with txf := F, ltx := s.ntx } = .got i t ∧ t.Exchanged) := by
  have hgot := State.Exchanged.of_received h hbusy hp F
  rcases receiveFrame_cases { chSend F s with txf := F, ltx := s.ntx } with
    ⟨c, r, heq, rfl | ⟨G, -, rfl⟩, -⟩ | ⟨G, i, -, -, heq⟩
  · exact .inl ⟨_, heq, (hgot s.rxf).withCause c⟩
  · exact .inl ⟨_, heq, (hgot G).withCause c⟩
  · exact .inr ⟨i, _, heq, hgot G⟩

/-- Inside an operation a `step` keeps the invariant (R160). -/
theorem State.Inv.seqStep {s t : State} (h : s.Inv) (hbusy : s.top ≠ .idle) (ht : seqStep s = .next t) : t.Inv := by
  unfold Machine.seqStep at ht
  split at ht
  · cases ht
    exact h
  · rename_i hp
    rcases exchange_cases s with ⟨r, heq, hr⟩ | ⟨F, -, -, ⟨-, heq⟩ | ⟨-, heq⟩⟩
    · rw [heq] at ht
      rcases hr with ⟨-, rfl⟩ | ⟨-, -, rfl⟩ | ⟨-, -, rfl⟩ <;> cases ht
    · rw [heq] at ht
      cases ht
      exact { h.toIdle with }
    · rcases receiveFrame_exchanged h hbusy hp F with ⟨u, hu, hx⟩ | ⟨i, u, hu, hx⟩ <;> rw [heq, hu] at ht
      · cases ht
        exact hx.retryPolicy_inv
      · exact hx.dispatchWire_inv ht

/-! ## The end of a `run` -/

/-- Everything the ATR step of `open` can do (R201). -/
theorem openIfs_cases (s : State) :
    openIfs s = s ∨ ∃ v, 1 ≤ v ∧ v ≤ Config.extLenMax ∧ openIfs s = writeIfs v s := by
  unfold openIfs
  split
  · exact .inl rfl
  · rename_i a _
    split
    · rename_i ha
      exact .inr ⟨_, le_min ha (by decide), min_le_right _ _, rfl⟩
    · exact .inl rfl

/-- `open` ends after its ATR step (R201). -/
theorem State.Inv.openIfs_endOp {s : State} (h : s.Inv) (hp : s.pstate = .idle)
    (hb : s.ntx.i.buf = none ∧ s.ltx.i.buf = none) (r : Ret) : (Machine.endOp r (openIfs s)).Inv := by
  rcases openIfs_cases s with heq | ⟨v, hpos, hmax, heq⟩ <;> rw [heq]
  · exact h.endOp hp hb r
  · exact (h.writeIfs hp hpos hmax).endOp hp hb r

/-- `transceive` ends with its command released (R203). -/
theorem State.Inv.releaseBuffer_endOp {s : State} (h : s.Inv) (hp : s.pstate = .idle) (r : Ret) :
    (Machine.endOp r (releaseBuffer s)).Inv :=
  .of_rest h.cfg h.mem rfl ⟨hp, rfl, h.sv, h.ntxOk, h.ltxOk, rfl, rfl⟩ h.snapEse h.snapEuicc

/-- What follows the `run` of an operation keeps the invariant: it ends, or its second exchange begins. -/
theorem State.Inv.finishOp {s : State} (h : s.Inv) {k : Cont} (hk : s.ctl = .running k) (hp : s.pstate = .idle) :
    (finishOp k s).Inv := by
  have hbusy : s.top ≠ .idle := by simp [h.atRest, hk]
  have hb (hne : ∀ b, k ≠ .transceive b) : s.ntx.i.buf = none ∧ s.ltx.i.buf = none :=
    h.no_buffer (by simpa [hk] using hne)
  have hatr {j : Cont} (hj : j ≠ .bare) (hne : ∀ b, k ≠ .transceive b) :
      (Machine.exchangeS j .atrReq [] .sendSAtrRequest s).Inv :=
    h.exchangeS (hb hne) hbusy hj rfl (Nat.zero_le _)
  cases k with
  | bare => exact absurd hk h.notBare
  | transceive b => exact h.releaseBuffer_endOp hp _
  | openHandshake =>
    unfold Machine.finishOp
    dsimp only
    split
    · exact hatr nofun nofun
    · exact h.endOp hp (hb nofun) _
  | openAtr =>
    unfold Machine.finishOp
    dsimp only
    split
    · exact h.openIfs_endOp hp (hb nofun) _
    · exact h.endOp hp (hb nofun) _
  | resetHard =>
    unfold Machine.finishOp
    dsimp only
    split
    · exact hatr nofun nofun
    · exact h.endOp hp (hb nofun) _
  | acquireLock | resetResync | resetAtr | close | closeAll | setIfs | getAtr => exact h.endOp hp (hb nofun) _

/-! ## The calls of the host -/

/-- The frame of a host operation keeps the invariant where its body does (R200). -/
theorem State.Inv.hostOp {s t : State} (h : s.Inv) {valid : Bool} {mode : TopState} {body : State → State}
    (ht : hostOp valid mode body s = .next t)
    (hbody : s.top = .idle → valid = true → (body { s with top := mode }).Inv) : t.Inv := by
  rcases hostOp_cases valid mode body s with ⟨-, heq⟩ | ⟨-, -, heq⟩ | ⟨htop, hvalid, heq⟩ <;> rw [heq] at ht <;>
    cases ht
  · exact { h with }
  · exact { h with }
  · exact hbody htop hvalid

/-- The handshake of `open` and of `reset` begins on the parameters' reset values (R201, R207). -/
theorem State.Inv.exchangeS_resetParams {s : State} (h : s.Inv) {k : Cont} (hk : k ≠ .bare) {n : SName} {ps : PState}
    (hn : stateOfName n = some ps) :
    (Machine.exchangeS k n [] ps (Machine.resetParams { s with top := .transceive })).Inv :=
  h.resetParams.exchangeS ⟨rfl, rfl⟩ (mode := .transceive) nofun hk hn (Nat.zero_le _)

theorem State.Inv.openBody {s : State} (h : s.Inv) (m : InitMode) :
    (openBody m { s with top := .transceive }).Inv := by
  unfold Machine.openBody
  split <;> exact h.exchangeS_resetParams (by decide) (by rfl)

theorem State.Inv.resetBody {s : State} (h : s.Inv) : (resetBody { s with top := .transceive }).Inv := by
  unfold Machine.resetBody
  split <;> exact h.exchangeS_resetParams (by decide) (by rfl)

/-- `transceive` begins with the first fragment of its command (R140, R203). -/
theorem State.Inv.transceiveBody {s : State} (h : s.Inv) (hb : s.ntx.i.buf = none ∧ s.ltx.i.buf = none)
    {cmd : Option BufRef} (hvalid : cmdValid cmd = true) : (transceiveBody cmd { s with top := .transceive }).Inv := by
  cases cmd with
  | none => cases hvalid
  | some b =>
    simp only [cmdValid, Bool.and_eq_true, decide_eq_true_eq] at hvalid
    obtain ⟨hpos, hlim⟩ := hvalid
    obtain ⟨hifs, hext, -⟩ := h.sv
    have hfirst : CtxOk (.running (.transceive b)) (loadIframe (some b) b.len s).ntx :=
      { ok := h.ntxOk
        tracks := tracks_firstFragment _ hpos hlim hifs hext
        pending := fun c hc => by cases hc; rfl }
    exact h.start hb.2 (hfirst.iframe rfl) nofun (mode := .transceive) nofun []

/-- The lock request carries no command (R141, R206). -/
theorem State.Inv.acquireLockBody {s : State} (h : s.Inv) (hb : s.ntx.i.buf = none ∧ s.ltx.i.buf = none) :
    (beginRun .acquireLock (loadLock { s with top := .transceive })).Inv :=
  have hlock : Sendable (.running .acquireLock) .sendLockAcquire (loadLock s).ntx :=
    ⟨.of_no_buffer _ h.ntxOk rfl, rfl, nofun⟩
  h.start hb.2 hlock nofun (mode := .transceive) nofun []

theorem length_ifsPayload_le (v : Variant) (n : Nat) : (ifsPayload v n).length ≤ Config.shortLenMax := by
  cases v
  · exact (show 1 ≤ Config.shortLenMax by decide)
  · exact (show 2 ≤ Config.shortLenMax by decide)

theorem snapOk_endpointOf {s : State} (h : s.Inv) (e : Endpoint) : snapOk s.cfg (endpointOf s e) := by
  cases e
  · exact h.snapEse
  · exact h.snapEuicc

theorem State.Inv.setEndpoint {s t : State} (h : s.Inv) {ep : Option Endpoint}
    (ht : execSetEndpoint ep s = .next t) : t.Inv := by
  unfold execSetEndpoint at ht
  split at ht
  · cases ht
    exact { h with }
  · rename_i htop
    split at ht <;> cases ht
    · exact { h with }
    · rename_i e
      exact .of_rest h.cfg h.mem (h.atRest.mp (not_not.mp htop)) (snapOk_endpointOf h e) h.snapEse h.snapEuicc

theorem State.Inv.resetEndpoint {s t : State} (h : s.Inv) (ht : execResetEndpoint s = .next t) : t.Inv := by
  unfold execResetEndpoint at ht
  split at ht
  · cases ht
    exact { h with }
  · rename_i htop
    have hsnap := h.snapOk_snapshot (not_not.mp htop)
    cases ht
    cases hep : s.epsel with
    | ese => exact { h with snapEse := hsnap }
    | euicc => exact { h with snapEuicc := hsnap }

/-- Every host operation keeps the invariant (R200 to R216). -/
theorem State.Inv.execHostOp {s t : State} (h : s.Inv) {i : Instr} (hi : i.isHostOp = true)
    (ht : exec i s = .next t) : t.Inv := by
  cases i with
  | openSession m =>
    cases m with
    | none => exact h.hostOp ht fun _ hvalid => absurd hvalid nofun
    | some m => exact h.hostOp ht fun _ _ => h.openBody m
  | transceive cmd => exact h.hostOp ht fun htop hvalid => h.transceiveBody (h.no_buffer_idle htop) hvalid
  | acquireLock b =>
    exact h.hostOp (body := fun u => beginRun .acquireLock (loadLock u)) ht fun htop _ =>
      h.acquireLockBody (h.no_buffer_idle htop)
  | reset => exact h.hostOp ht fun _ _ => h.resetBody
  | release => exact h.hostOp ht fun htop _ => h.endOp (h.idle htop) (h.no_buffer_idle htop) _
  | getIfs => exact h.hostOp ht fun htop _ => h.endOp (h.idle htop) (h.no_buffer_idle htop) _
  | close =>
    exact h.hostOp ht fun htop _ =>
      h.exchangeS (h.no_buffer_idle htop) (by decide) (by decide) rfl (Nat.zero_le _)
  | closeAllSessions =>
    exact h.hostOp ht fun htop _ =>
      h.exchangeS (h.no_buffer_idle htop) (by decide) (by decide) rfl (show 1 ≤ Config.shortLenMax by decide)
  | setIfs n =>
    exact h.hostOp ht fun htop _ =>
      h.exchangeS (h.no_buffer_idle htop) (by decide) (by decide) rfl (length_ifsPayload_le _ n)
  | getAtr =>
    exact h.hostOp ht fun htop _ =>
      h.exchangeS (h.no_buffer_idle htop) (by decide) (by decide) rfl (Nat.zero_le _)
  | setEndpoint e => exact h.setEndpoint ht
  | resetEndpoint => exact h.resetEndpoint ht
  | _ => cases hi

theorem State.Inv.finishEncode {s t : State} (h : s.Inv) {r : EncOut} (ht : finishEncode r s = .next t) : t.Inv := by
  rcases finishEncode_cases ht with ⟨F, -, rfl⟩ | ⟨-, rfl⟩ <;> exact { h with }

/-- Every codec operation keeps the invariant: it writes the frame buffer and the returned value alone (R104). -/
theorem State.Inv.execCodecOp {s t : State} (h : s.Inv) {i : Instr} (hi : i.isCodecOp = true)
    (ht : exec i s = .next t) : t.Inv := by
  cases i with
  | computeLrc | checkLrc | decode => cases ht; exact { h with }
  | encodeIframe | encodeRframe | encodeSframe => exact h.finishEncode ht
  | encodeLock x => exact h.finishEncode (r := encodeL s x) ht
  | _ => cases hi

theorem State.Inv.execHostCallable {s t : State} (h : s.Inv) {i : Instr} (hi : i.hostCallable = true)
    (ht : exec i s = .next t) : t.Inv := by
  simp only [Instr.hostCallable, Bool.or_eq_true, decide_eq_true_eq] at hi
  rcases hi with (hop | hcodec) | rfl
  · exact h.execHostOp hop ht
  · exact h.execCodecOp hcodec ht
  · cases ht
    exact h.powerOn

theorem State.Inv.hostStore {s t : State} (h : s.Inv) {a : Nat} {v : Byte} (ht : hostStore a v s = .next t) :
    t.Inv := by
  rcases hostStore_cases a v s with ⟨heq, -⟩ | ⟨heq, -⟩ <;> rw [heq] at ht <;> cases ht
  exact { h with mem := Memory.write_wf _ _ _ h.mem }

/-! ## One transition of the machine -/

/-- A transition that was fetched, carried out. -/
def carryOut : Fetched → Result
  | .instr i t => exec i t
  | .settled r => r

theorem step_eq_carryOut (s : State) : step s = carryOut (fetch s) := by
  unfold step
  cases fetch s <;> rfl

theorem carryOut_advanceRun_atRest {s : State} (hk : s.ctl = .atRest) : carryOut (advanceRun s) = .next s := by
  simp [advanceRun, hk, carryOut]

theorem carryOut_advanceRun_idle {s : State} {k : Cont} (hk : s.ctl = .running k) (hp : s.pstate = .idle) :
    carryOut (advanceRun s) = .next (finishOp k s) := by
  simp [advanceRun, hk, hp, carryOut]

/-- Inside a `run`, in a send state, the block's own transition is one `step`. -/
theorem carryOut_advanceRun_sending {s : State} {k : Cont} (hk : s.ctl = .running k) (hp : s.pstate ≠ .idle) :
    carryOut (advanceRun s) = seqStep s := by
  simp only [advanceRun, hk, if_neg hp, seqStep]
  cases he : exchange s with
  | stuck r => rfl
  | failed t => rfl
  | lost t => rfl
  | got i t =>
    obtain ⟨f, hf⟩ := exchange_got he
    exact (dispatchWire_eq_exec hf t).symm

/-- Everything a transition can be: a call of the host, a store of the host, or the block's own next transition. -/
theorem step_cases {s t : State} (h : step s = .next t) :
    (∃ i rest, i.hostCallable = true ∧ exec i { s with hostIn := rest } = .next t) ∨
    (∃ a v rest, hostStore a v { s with hostIn := rest } = .next t) ∨
    (∃ rest, carryOut (advanceRun { s with hostIn := rest }) = .next t) := by
  rw [step_eq_carryOut] at h
  unfold fetch at h
  split at h
  · exact .inr (.inr ⟨s.hostIn, h⟩)
  · exact .inr (.inr ⟨_, h⟩)
  · exact .inr (.inl ⟨_, _, _, h⟩)
  · split at h
    · exact .inl ⟨_, _, by assumption, h⟩
    · cases h

theorem State.Inv.advance {s t : State} (h : s.Inv) (ht : carryOut (advanceRun s) = .next t) : t.Inv := by
  cases hk : s.ctl with
  | atRest =>
    rw [carryOut_advanceRun_atRest hk] at ht
    cases ht
    exact h
  | running k =>
    by_cases hp : s.pstate = .idle
    · rw [carryOut_advanceRun_idle hk hp] at ht
      cases ht
      exact h.finishOp hk hp
    · rw [carryOut_advanceRun_sending hk hp] at ht
      exact h.seqStep (by simp [h.atRest, hk]) ht

/-- Settles O53: what the host does first keeps the invariant, and so does the block's own transition. -/
theorem invIsKeptByEveryStep : Obligations.InvIsKeptByEveryStep := by
  intro s t h ht
  have hin (rest : List HostEvent) : State.Inv { s with hostIn := rest } := { h with }
  rcases step_cases ht with ⟨i, rest, hi, ht⟩ | ⟨a, v, rest, ht⟩ | ⟨rest, ht⟩
  · exact (hin rest).execHostCallable hi ht
  · exact (hin rest).hostStore ht
  · exact (hin rest).advance ht

/-! ## The machine right after reset -/

/-- The defaults of R5 are a well-formed configuration, whatever the open parameters are. -/
theorem wf_standard : Cfg.standard.wf :=
  ⟨by decide, by decide, by decide, by decide, by decide, by decide, by decide, by decide, Nat.le_add_left _ _⟩

/-- Settles O52: the machine right after reset is at rest, and all three of its protocol states are initial. -/
theorem resetSatisfiesInv : Obligations.ResetSatisfiesInv :=
  have hinit := snapOk_initialSnapshot wf_standard
  .of_rest wf_standard Memory.wf_nil rfl hinit hinit hinit

/-- Settles O25: power-on reset writes the initial values again. -/
theorem resetStateValues : Obligations.ResetStateValues :=
  ⟨powerOn State.reset, rfl, rfl, rfl, rfl, rfl⟩

/-! ## The row `seed_sframe` -/

theorem exec_seedSframe_of_state {n : SName} {ps : PState} (hn : stateOfName n = some ps) (p : Bytes) (s : State) :
    exec (.seedSframe (.named n) p) s = .next (loadSframe n p ps s) := by
  show Host.Outcome.next (seedSframe (.named n) p s) = _
  simp only [seedSframe, hn]

theorem exec_seedSframe_of_no_state {sub : SSub} (hsub : stateOf sub = none) (p : Bytes) (s : State) :
    exec (.seedSframe sub p) s = .next (raise .invalidParameter s) := by
  show Host.Outcome.next (seedSframe sub p s) = _
  cases sub with
  | named n =>
    have hn : stateOfName n = none := hsub
    simp only [seedSframe, hn]
  | unknown c => rfl
  | invalid => rfl

/-- Settles O14: the row's two outcomes, by whether some state sends the subtype. -/
theorem seedSframeContext : Obligations.SeedSframeContext := by
  intro s p
  constructor
  · intro n ps hmem
    have hn : stateOfName n = some ps := by
      simp only [List.mem_cons, Prod.mk.injEq, List.not_mem_nil, or_false] at hmem
      rcases hmem with ⟨rfl, rfl⟩ | ⟨rfl, rfl⟩ | ⟨rfl, rfl⟩ | ⟨rfl, rfl⟩ | ⟨rfl, rfl⟩ | ⟨rfl, rfl⟩ | ⟨rfl, rfl⟩ <;> rfl
    exact exec_seedSframe_of_state hn p s
  · intro sub hsub
    refine exec_seedSframe_of_no_state ?_ p s
    rcases hsub with rfl | ⟨c, rfl⟩ | hmem
    · rfl
    · rfl
    · obtain ⟨n, hn, rfl⟩ := List.mem_map.mp hmem
      simp only [List.mem_cons, List.not_mem_nil, or_false] at hn
      rcases hn with rfl | rfl | rfl | rfl | rfl | rfl | rfl | rfl | rfl <;> rfl

end Machine
end Sys2Proof
end

section
/-! What lies outside the active protocol state, the command memory above all, under every instruction; what one
`step` sends and receives; the events of the host; and where an operation stops. -/

namespace Sys2Proof
namespace Machine

/-! ## Operations that stop by name -/

theorem memRead_outside (m : Memory) (b : BufRef) (off n : Nat) (h : b.len < off + n) :
    memRead m (some b) off n = none := by
  simp [memRead, h]

/-- A fragment that some layout carries is encoded exactly where its bytes lie in the buffer (R42, R100). -/
theorem encodeI_of_layout {s : State} {x : TxCtx} {b : BufRef} (hb : x.i.buf = some b) (hpos : 1 ≤ x.i.fragLen)
    (hlen : x.i.fragLen ≤ 254 ∨ (s.variant = .extended ∧ x.i.fragLen ≤ 65535)) :
    encodeI s x =
      if x.i.offset + x.i.fragLen ≤ b.len then
        .frame (frameI s.cfg (txAddr s) x.i.seq x.i.chained (Memory.slice s.mem (b.base + x.i.offset) x.i.fragLen))
      else .noValue := by
  have hbytes : ¬ (x.i.buf = none ∨ x.i.fragLen = 0) := by
    rw [hb]
    rintro (h | h)
    · cases h
    · omega
  have hlegacy : ¬ (Config.shortLenMax < x.i.fragLen ∧ s.variant = .legacy) := by
    rintro ⟨hlong, hv⟩
    rcases hlen with hshort | ⟨hext, -⟩
    · exact absurd hlong (not_lt.mpr hshort)
    · rw [hv] at hext
      cases hext
  have hext : ¬ Config.extLenMax < x.i.fragLen := by
    simp only [Config.extLenMax]
    omega
  rw [encodeI, if_neg hbytes, if_neg hlegacy, if_neg hext, hb]
  split_ifs with hend
  · rw [memRead_inside _ _ _ _ hend]
  · rw [memRead_outside _ _ _ _ (not_le.mp hend)]

/-- The legacy variant has no layout for more than 254 bytes (R101). -/
theorem encodeI_raised_of_legacy {s : State} {x : TxCtx} (hv : s.variant = .legacy) (hlong : 254 < x.i.fragLen) :
    encodeI s x = .raised := by
  unfold encodeI
  split
  · rfl
  · exact if_pos ⟨hlong, hv⟩

theorem replayS_of_no_state {s : State} (h : stateOf s.ltx.s.subtype = none) :
    replayS s = .refused .noStateForSubtype := by
  simp only [replayS, h]

theorem retransmit_sframe {s : State} (h : s.ltx.ftype = .s) : retransmit s = replayS s := by
  simp only [retransmit, h]

/-- The nine named subtypes that no state sends (R146). -/
theorem stateOfName_eq_none : ∀ n ∈ [SName.resynchRsp, .ifsRsp, .abortReq, .abortRsp, .wtxReq, .endOfSessionRsp,
    .hardResetRsp, .atrRsp, .intfResetRsp], stateOfName n = none := by
  decide

/-- Settles O20: each operation's test fails in the state named. -/
theorem operationsStopByName : Obligations.OperationsStopByName := by
  intro s
  refine ⟨?_, ?_, ?_, ?_⟩
  · intro x b hb hpos hend hlen
    show finishEncode (encodeI s x) s = _
    rw [encodeI_of_layout hb hpos hlen, if_neg (not_le.mpr hend)]
    rfl
  · intro hchained
    exact if_pos hchained
  · intro hchained hless
    show nextIframe s = _
    simp [nextIframe, hchained, hless]
  · intro hf hsub
    show retransmit s = _
    rw [retransmit_sframe hf]
    apply replayS_of_no_state
    rcases hsub with hsub | ⟨c, hsub⟩ | hmem
    · rw [hsub]
      rfl
    · rw [hsub]
      rfl
    · obtain ⟨n, hn, hsub⟩ := List.mem_map.mp hmem
      rw [← hsub]
      exact stateOfName_eq_none n hn

/-! ## The surroundings of the active protocol state -/

/-- The state with the registers of the active protocol state (those a snapshot copies, R25), `TOP` apart, at fixed
values: two states of equal surroundings differ in these registers alone. -/
def surroundings (s : State) : State := loadSnapshot { initialSnapshot s.cfg with top := s.top } s

/-- A transition that writes the active protocol state, `TOP` apart, and sleeps at most once (R47, R170). -/
def ProtocolOnly (s t : State) : Prop :=
  surroundings t = surroundings s ∨ ∃ d, surroundings t = surroundings (note (.slept d) s)

@[simp] theorem surroundings_mem (s : State) : (surroundings s).mem = s.mem := rfl
@[simp] theorem surroundings_txf (s : State) : (surroundings s).txf = s.txf := rfl
@[simp] theorem surroundings_trace (s : State) : (surroundings s).trace = s.trace := rfl

theorem mem_of_surroundings {s t : State} (h : surroundings t = surroundings s) : t.mem = s.mem := by
  rw [← surroundings_mem t, h, surroundings_mem]

namespace ProtocolOnly

/-- The writes made before it may be writes of the protocol state too. -/
theorem of_surroundings {r s t : State} (h : ProtocolOnly r t) (hr : surroundings r = surroundings s) :
    ProtocolOnly s t := by
  rcases h with h | ⟨d, h⟩
  · exact .inl (h.trans hr)
  · exact .inr ⟨d, h.trans (congrArg (note (.slept d)) hr)⟩

theorem mem {s t : State} (h : ProtocolOnly s t) : t.mem = s.mem := by
  rcases h with h | ⟨d, h⟩
  · exact mem_of_surroundings h
  · exact (mem_of_surroundings h).trans rfl

theorem txf {s t : State} (h : ProtocolOnly s t) : t.txf = s.txf := by
  rcases h with h | ⟨d, h⟩ <;> rw [← surroundings_txf t, h] <;> rfl

theorem trace {s t : State} (h : ProtocolOnly s t) :
    ∃ sl, (sl = [] ∨ ∃ d, sl = [.slept d]) ∧ t.trace = sl ++ s.trace := by
  rcases h with h | ⟨d, h⟩
  · exact ⟨[], .inl rfl, by rw [← surroundings_trace t, h]; rfl⟩
  · exact ⟨[.slept d], .inr ⟨d, rfl⟩, by rw [← surroundings_trace t, h]; rfl⟩

end ProtocolOnly

/-! ### Errors -/

theorem surroundings_retryPolicy (s : State) : surroundings (retryPolicy s) = surroundings s := by
  rcases retryPolicy_cases s with ⟨-, heq⟩ | ⟨-, heq⟩ <;> rw [heq] <;> rfl

theorem surroundings_recoveryProcedure (s : State) : surroundings (recoveryProcedure s) = surroundings s := by
  rcases recoveryProcedure_cases s with ⟨-, heq⟩ | ⟨-, heq⟩ <;> rw [heq] <;> rfl

theorem surroundings_replayS {s t : State} (h : replayS s = .next t) : surroundings t = surroundings s := by
  obtain ⟨ps, -, rfl⟩ := replayS_cases h
  rfl

theorem surroundings_retransmit {s t : State} (h : retransmit s = .next t) : surroundings t = surroundings s := by
  rcases retransmit_cases h with ⟨-, rfl⟩ | ⟨-, rfl⟩ | ⟨-, ps, -, rfl⟩ | ⟨-, -, -, -, rfl⟩ | ⟨-, -, -, rfl⟩ | rfl <;>
    rfl

theorem surroundings_guarded {a : GuardedAction} {s t : State} (h : guarded a s = .next t) :
    surroundings t = surroundings s := by
  rcases guarded_cases h with ⟨-, u, hu, rfl⟩ | ⟨-, rfl⟩
  · show surroundings u = _
    rcases guardedAction_cases hu with rfl | ⟨-, hr⟩ | ⟨-, hr⟩
    · rfl
    · exact surroundings_retransmit hr
    · exact surroundings_replayS hr
  · exact surroundings_recoveryProcedure s

/-! ### The receive dispatch -/

theorem surroundings_acceptI (seq chained : Bit) (p : Bytes) (s : State) :
    surroundings (acceptI seq chained p s) = surroundings s := by
  cases chained <;> rfl

theorem dispatchI_protocolOnly {seq chained : Bit} {p : Bytes} {s t : State}
    (h : dispatchI seq chained p s = .next t) : ProtocolOnly s t := by
  unfold dispatchI at h
  split at h
  · cases h
    exact .inl (surroundings_acceptI seq chained p s)
  · exact .inr ⟨s.cfg.recoveryDelay, (surroundings_guarded h).trans rfl⟩

theorem surroundings_nextIframe {s t : State} (h : nextIframe s = .next t) : surroundings t = surroundings s := by
  obtain ⟨-, -, rfl⟩ := nextIframe_cases h
  rfl

theorem surroundings_advanceFragment {s t : State} (h : advanceFragment s = .next t) :
    surroundings t = surroundings s := by
  unfold advanceFragment at h
  split at h
  · rename_i u hu
    cases h
    exact (surroundings_nextIframe hu).trans rfl
  · cases h
  · cases h

theorem surroundings_dispatchR {seq : Bit} {kind : AckKind} {err : ErrClass} {s t : State}
    (h : dispatchR seq kind err s = .next t) : surroundings t = surroundings s := by
  unfold dispatchR at h
  dsimp only at h
  split at h
  · exact (surroundings_advanceFragment h).trans rfl
  · exact (surroundings_guarded h).trans rfl

theorem wtxRequest_protocolOnly (s : State) : ProtocolOnly s (wtxRequest s) := by
  rcases wtxRequest_cases s with ⟨-, heq⟩ | ⟨-, heq⟩ <;> rw [heq]
  · exact .inr ⟨s.cfg.wtxDelay, rfl⟩
  · exact .inl rfl

theorem surroundings_ifsResponse (p : Bytes) (s : State) : surroundings (ifsResponse p s) = surroundings s := by
  unfold ifsResponse
  split
  · split <;> rfl
  · rfl

theorem surroundings_applyAtr (atr : Option AtrFields) (p : Bytes) (s : State) :
    surroundings (applyAtr atr p s) = surroundings s := by
  cases atr <;> rfl

theorem surroundings_unexpectedS {c : Cause} {s t : State} (h : unexpectedS c s = .next t) :
    surroundings t = surroundings s :=
  (surroundings_guarded h).trans rfl

theorem dispatchS_protocolOnly {sub : SSub} {p : Bytes} {atr : Option AtrFields} {s t : State}
    (h : dispatchS sub p atr s = .next t) : ProtocolOnly s t := by
  cases sub with
  | unknown c => exact .inl ((surroundings_unexpectedS h).trans rfl)
  | invalid => exact .inl ((surroundings_unexpectedS h).trans rfl)
  | named n =>
    cases n with
    | wtxReq => cases h; exact wtxRequest_protocolOnly _
    | resynchRsp | abortRsp | hardResetRsp | endOfSessionRsp => cases h; exact .inl rfl
    | ifsRsp => cases h; exact .inl (surroundings_ifsResponse p _)
    | intfResetRsp => cases h; exact .inl (surroundings_applyAtr atr p _)
    | atrRsp => cases h; exact .inl (surroundings_applyAtr atr p _)
    | resynchReq | ifsReq | abortReq | wtxRsp | endOfSessionReq | hardResetReq | atrReq | intfResetReq =>
      exact .inl ((surroundings_unexpectedS h).trans rfl)

theorem surroundings_clearOnDecode (f : Frame) (s : State) :
    surroundings (clearOnDecode f s) = surroundings s := by
  unfold clearOnDecode
  split <;> rfl

/-- The receive dispatch writes the active protocol state alone (R170, R180). -/
theorem dispatch_protocolOnly {f : Frame} {s t : State} (h : dispatch f s = .next t) : ProtocolOnly s t := by
  have hrx (k : RxKind) : surroundings (setRxKind k (clearOnDecode f s)) = surroundings s :=
    surroundings_clearOnDecode f s
  cases f with
  | i seq chained p => exact (dispatchI_protocolOnly h).of_surroundings (hrx .i)
  | r seq kind err => exact .inl ((surroundings_dispatchR h).trans (hrx .r))
  | s sub p atr w => exact (dispatchS_protocolOnly h).of_surroundings (hrx .s)

/-! ### One step of the sequencer -/

/-- Everything a `step` can do in a send state, if it gives a next state: the frame of the state is sent, and a receive
and the reaction to it follow a send that succeeds (R160, R162). -/
theorem seqStep_cases {s t : State} (hp : s.pstate ≠ .idle) (h : seqStep s = .next t) :
    ∃ F, frameFor s = .frame F ∧
      ((nextSend s = .ioError ∧ t = sendFailed { chSend F s with txf := F }) ∨
       (nextSend s = .ok ∧
        ∃ G, ProtocolOnly { chRecv { chSend F s with txf := F, ltx := s.ntx } with rxf := G } t)) := by
  rw [seqStep, if_neg hp] at h
  rcases exchange_cases s with ⟨r, heq, hr⟩ | ⟨F, -, hF, ⟨hsend, heq⟩ | ⟨hsend, heq⟩⟩ <;> rw [heq] at h
  · rcases hr with ⟨-, rfl⟩ | ⟨-, -, rfl⟩ | ⟨-, -, rfl⟩ <;> cases h
  · cases h
    exact ⟨F, hF, .inl ⟨hsend, rfl⟩⟩
  · refine ⟨F, hF, .inr ⟨hsend, ?_⟩⟩
    rcases receiveFrame_cases { chSend F s with txf := F, ltx := s.ntx } with
      ⟨c, r, hr, rfl | ⟨G, -, rfl⟩, -⟩ | ⟨G, i, -, hi, hr⟩ <;> rw [hr] at h
    · cases h
      exact ⟨s.rxf, .inl (surroundings_retryPolicy _)⟩
    · cases h
      exact ⟨G, .inl (surroundings_retryPolicy _)⟩
    · obtain ⟨f, hf⟩ := decodeInstr_isWire hi
      simp only [dispatchWire, hf] at h
      exact ⟨G, dispatch_protocolOnly h⟩

/-- The encode operation of a state is the sequencer's own encoding as a transition (R163). -/
theorem exec_sendingOp {s : State} {op : Instr} (h : sendingOp s = some op) :
    exec op s = finishEncode (frameFor s) s := by
  cases hp : s.pstate with
  | idle => simp [sendingOp, hp] at h
  | _ =>
    simp only [sendingOp, hp, Option.some.injEq] at h
    subst h
    simp only [frameFor, hp]
    rfl

theorem exists_sendingOp {s : State} (hp : s.pstate ≠ .idle) : ∃ op, sendingOp s = some op := by
  cases h : s.pstate with
  | idle => exact absurd h hp
  | _ => exact ⟨_, by simp only [sendingOp, h]; rfl⟩

/-- Settles O44: what a step does after its receive sleeps at most once. -/
theorem stepIsHalfDuplex : Obligations.StepIsHalfDuplex := by
  intro s t hp ht
  obtain ⟨op, hop⟩ := exists_sendingOp hp
  obtain ⟨F, hF, hout⟩ := seqStep_cases hp ht
  refine ⟨op, { s with txf := F, ret := .frameBytes F }, F, hop, ?_, rfl, ?_⟩
  · rw [exec_sendingOp hop, hF]
    rfl
  rcases hout with ⟨hsend, rfl⟩ | ⟨hsend, G, hpost⟩
  · refine ⟨rfl, .inl ?_⟩
    show ChEvent.sent F (nextSend s) :: s.trace = _
    rw [hsend]
  · obtain ⟨sl, hsl, htrace⟩ := hpost.trace
    refine ⟨hpost.txf, .inr ⟨nextRecv { chSend F s with txf := F, ltx := s.ntx }, sl, hsl, ?_⟩⟩
    rw [htrace]
    show sl ++ .received s.cfg.recvTimeout _ :: .sent F (nextSend s) :: s.trace = _
    rw [hsend]

/-! ## The command memory -/

theorem seqStep_mem {s t : State} (h : seqStep s = .next t) : t.mem = s.mem := by
  by_cases hp : s.pstate = .idle
  · rw [seqStep, if_pos hp] at h
    cases h
    rfl
  · obtain ⟨F, -, ⟨-, rfl⟩ | ⟨-, G, hpost⟩⟩ := seqStep_cases hp h
    · rfl
    · exact hpost.mem

theorem hostOp_mem {valid : Bool} {mode : TopState} {body : State → State} {s t : State}
    (h : hostOp valid mode body s = .next t) (hbody : ∀ u, (body u).mem = u.mem) : t.mem = s.mem := by
  rcases hostOp_cases valid mode body s with ⟨-, heq⟩ | ⟨-, -, heq⟩ | ⟨-, -, heq⟩ <;> rw [heq] at h <;> cases h
  · rfl
  · rfl
  · exact hbody _

theorem openBody_mem (m : InitMode) (s : State) : (openBody m s).mem = s.mem := by
  unfold openBody
  split <;> rfl

theorem resetBody_mem (s : State) : (resetBody s).mem = s.mem := by
  unfold resetBody
  split <;> rfl

theorem transceiveBody_mem (cmd : Option BufRef) (s : State) : (transceiveBody cmd s).mem = s.mem := by
  cases cmd <;> rfl

theorem execSetEndpoint_mem {ep : Option Endpoint} {s t : State} (h : execSetEndpoint ep s = .next t) :
    t.mem = s.mem := by
  unfold execSetEndpoint at h
  split at h
  · cases h
    rfl
  · split at h <;> cases h <;> rfl

theorem execResetEndpoint_mem {s t : State} (h : execResetEndpoint s = .next t) : t.mem = s.mem := by
  unfold execResetEndpoint at h
  split at h <;> cases h
  · rfl
  · cases hep : s.epsel <;> rfl

theorem finishEncode_mem {r : EncOut} {s t : State} (h : finishEncode r s = .next t) : t.mem = s.mem := by
  rcases finishEncode_cases h with ⟨F, -, rfl⟩ | ⟨-, rfl⟩ <;> rfl

theorem execSeedIframe_mem {buf : Option BufRef} {n : Nat} {s t : State} (h : execSeedIframe buf n s = .next t) :
    t.mem = s.mem := by
  unfold execSeedIframe at h
  split at h <;> cases h <;> rfl

theorem seedSframe_mem (sub : SSub) (p : Bytes) (s : State) : (seedSframe sub p s).mem = s.mem := by
  unfold seedSframe
  split
  · split <;> rfl
  · rfl
  · rfl

/-- The meaning of a wire frame is its reception (R180; log entry 10). -/
theorem exec_wire {i : Instr} {f : Frame} (hf : i.toFrame = some f) (s : State) : exec i s = dispatch f s := by
  rw [← dispatchWire_eq_exec hf, dispatchWire, hf]

/-- No instruction writes the command memory (R41). -/
theorem exec_mem {i : Instr} {s t : State} (h : exec i s = .next t) : t.mem = s.mem := by
  cases i with
  | iShort | iExt | lock | rAck | rNackParity | rNackOther | rNackMissing | rUndefBit5 | rUndefBit3 | rUndefBit2
  | sResynchReq | sResynchRsp | sIfsReq | sIfsRsp | sAbortReq | sAbortRsp | sWtxReq | sWtxRsp | sEndOfSessionReq
  | sEndOfSessionRsp | sHardResetReq | sHardResetRsp | sAtrReq | sAtrRsp | sIntfResetReq | sIntfResetRsp
  | sUnknown => exact (dispatch_protocolOnly ((exec_wire rfl s).symm.trans h)).mem
  | dispatch => exact (dispatch_protocolOnly h).mem
  | openSession m =>
    cases m with
    | none => exact hostOp_mem h (fun _ => rfl)
    | some m => exact hostOp_mem h (openBody_mem m)
  | transceive cmd => exact hostOp_mem h (transceiveBody_mem cmd)
  | acquireLock => exact hostOp_mem (body := fun u => beginRun .acquireLock (loadLock u)) h (fun _ => rfl)
  | reset => exact hostOp_mem h resetBody_mem
  | release | close | closeAllSessions | setIfs | getIfs | getAtr => exact hostOp_mem h (fun _ => rfl)
  | setEndpoint => exact execSetEndpoint_mem h
  | resetEndpoint => exact execResetEndpoint_mem h
  | encodeIframe | encodeRframe | encodeSframe => exact finishEncode_mem h
  | encodeLock x => exact finishEncode_mem (r := encodeL s x) h
  | seedIframe => exact execSeedIframe_mem h
  | seedSframe sub p => cases h; exact seedSframe_mem sub p s
  | nextIframeCtx => exact mem_of_surroundings (surroundings_nextIframe h)
  | step => exact seqStep_mem h
  | guarded => exact mem_of_surroundings (surroundings_guarded h)
  | retransmit => exact mem_of_surroundings (surroundings_retransmit h)
  | retryPolicy => cases h; exact mem_of_surroundings (surroundings_retryPolicy s)
  | recoveryProcedure => cases h; exact mem_of_surroundings (surroundings_recoveryProcedure s)
  | computeLrc | checkLrc | decode | seedLock | seedRframe | run | giveUp | resetParams | powerOnReset =>
    cases h
    rfl

/-- Settles O55: the whole memory is the one before. -/
theorem noInstructionStores : Obligations.NoInstructionStores := by
  intro i s t h a
  rw [exec_mem h]

/-! ## The events of the host -/

theorem step_unprompted {s : State} (hh : s.hostIn = []) : step s = carryOut (advanceRun s) := by
  rw [step_eq_carryOut, fetch, hh]

theorem step_quiet {s : State} {rest : List HostEvent} (hh : s.hostIn = .quiet :: rest) :
    step s = carryOut (advanceRun { s with hostIn := rest }) := by
  rw [step_eq_carryOut, fetch, hh]

theorem step_store {s : State} {a : Nat} {v : Byte} {rest : List HostEvent} (hh : s.hostIn = .store a v :: rest) :
    step s = hostStore a v { s with hostIn := rest } := by
  rw [step_eq_carryOut, fetch, hh]
  rfl

theorem step_call_refused {s : State} {i : Instr} {rest : List HostEvent} (hh : s.hostIn = .call i :: rest)
    (hi : i.hostCallable = false) : step s = .refused .notHostCallable := by
  simp [step_eq_carryOut, fetch, hh, hi, carryOut]

/-- Settles O47: one rule per event; a store that is carried out is a write of a canonical memory. -/
theorem hostEventsAtATransition : Obligations.HostEventsAtATransition := by
  intro s rest
  refine ⟨?_, ?_, ?_, ?_⟩
  · intro hh hrest
    rw [step_unprompted hh, carryOut_advanceRun_atRest hrest]
  · intro hh hrest
    rw [step_quiet hh]
    exact carryOut_advanceRun_atRest hrest
  · intro i hh
    exact ⟨step_call hh, step_call_refused hh⟩
  · intro a v hh used
    have hused : inUse a { s with hostIn := rest } = true ↔ used := inUse_iff a { s with hostIn := rest }
    rw [step_store hh]
    rcases hostStore_cases a v { s with hostIn := rest } with ⟨heq, hbusy, hin, hchange⟩ | ⟨heq, hfree⟩ <;> rw [heq]
    · refine ⟨fun _ _ _ => rfl, ?_⟩
      rintro (htop | hnot | hsame)
      · exact absurd htop hbusy
      · exact absurd (hused.mp hin) hnot
      · exact absurd hsame hchange
    · constructor
      · intro hbusy hin hchange
        exact absurd ⟨hbusy, hused.mpr hin, hchange⟩ hfree
      · intro _ hwf
        exact ⟨Memory.write s.mem a v, rfl, Memory.write_wf _ _ _ hwf, Memory.read_write_same _ _ _ hwf,
          fun b hb => Memory.read_write_other _ _ _ _ hb⟩

/-! ## A step of the invariant completes -/

/-- The operation answers a next state. -/
def Completes (r : Result) : Prop := ∃ t, r = .next t

theorem completes_next (t : State) : Completes (.next t) := ⟨t, rfl⟩

theorem retransmit_completes {s : State} (h : s.ltx.ftype = .s → ∃ ps, stateOf s.ltx.s.subtype = some ps) :
    Completes (retransmit s) := by
  unfold retransmit
  split
  · exact completes_next _
  · exact completes_next _
  · rename_i hf
    obtain ⟨ps, hps⟩ := h hf
    simp only [replayS, hps]
    exact completes_next _
  · split
    · exact completes_next _
    · split <;> exact completes_next _
  · exact completes_next _

theorem guarded_completes {a : GuardedAction} {s : State} (h : Completes (guardedAction a s)) :
    Completes (guarded a s) := by
  obtain ⟨t, ht⟩ := h
  unfold guarded
  split
  · rw [ht]
    exact completes_next _
  · exact completes_next _

theorem advanceFragment_completes {s : State} (hc : s.ntx.i.chained = true)
    (hl : s.ntx.i.fragLen ≤ s.ntx.i.remaining) : Completes (advanceFragment s) := by
  rw [advanceFragment, nextIframe_next (s := setRecovery 0 s) hc hl]
  exact completes_next _

namespace State.Exchanged

/-- An S-frame that was sent has a state that sends it again (R163, R239). -/
theorem stateOf_ltx {s : State} (h : s.Exchanged) (hf : s.ltx.ftype = .s) :
    ∃ ps, stateOf s.ltx.s.subtype = some ps := by
  rw [h.sent] at hf ⊢
  have hagrees := h.inv.agrees
  cases hp : s.pstate with
  | idle => exact absurd hp h.sending
  | sendIframe | sendRAck | sendRNack | sendLockAcquire => simp [sendStateAgrees, hp, hf] at hagrees
  | sendSResync | sendSIntfReset | sendSIfsAdjust | sendSEndOfSession | sendSWtxResponse | sendSHardReset
  | sendSAtrRequest =>
    simp only [sendStateAgrees, hp, hf, decide_true, Bool.true_and, decide_eq_true_eq] at hagrees
    rw [hagrees]
    exact ⟨_, rfl⟩

/-- Every guarded action completes; the replay under the precondition of R239. -/
theorem guardedAction_completes {s : State} (h : s.Exchanged) {a : GuardedAction}
    (ha : a = .replayS → s.ltx.ftype = .s) : Completes (guardedAction a s) := by
  cases a with
  | nackOther => exact completes_next _
  | retransmit => exact retransmit_completes h.stateOf_ltx
  | replayS =>
    have hf := ha rfl
    have hretransmit := retransmit_completes h.stateOf_ltx
    rw [retransmit_sframe hf] at hretransmit
    exact hretransmit

theorem dispatchI_completes {s : State} (h : s.Exchanged) (seq chained : Bit) (p : Bytes) :
    Completes (dispatchI seq chained p s) := by
  unfold dispatchI
  split
  · exact completes_next _
  · exact guarded_completes (((h.withCause _).withNote _).guardedAction_completes nofun)

/-- An advancing ACK meets the precondition of `next_iframe_ctx` (R142, R152, R184). -/
theorem dispatchR_completes {s : State} (h : s.Exchanged) (seq : Bit) (kind : AckKind) (err : ErrClass) :
    Completes (dispatchR seq kind err s) := by
  unfold dispatchR
  dsimp only
  split
  · rename_i hack
    simp only [ackAdvances, Bool.and_eq_true] at hack
    obtain ⟨⟨⟨-, hbuf⟩, hchained⟩, -⟩ := hack
    rw [h.sent] at hbuf hchained
    obtain ⟨b, hb⟩ := Option.isSome_iff_exists.mp hbuf
    obtain ⟨-, -, -, hfrag, -⟩ := h.ctx.tracks b hb
    exact advanceFragment_completes hchained hfrag
  · exact guarded_completes (((h.withRxc _).withCause _).guardedAction_completes nofun)

theorem unexpectedS_completes {s : State} (h : s.Exchanged) (c : Cause) : Completes (unexpectedS c s) := by
  refine guarded_completes ((h.withCause c).guardedAction_completes ?_)
  split
  · rename_i hlast
    simp only [lastSentNonWtxS, Bool.and_eq_true, decide_eq_true_eq] at hlast
    exact fun _ => hlast.1
  · exact nofun

theorem dispatchS_completes {s : State} (h : s.Exchanged) (sub : SSub) (p : Bytes) (atr : Option AtrFields) :
    Completes (dispatchS sub p atr s) := by
  have hrxc := h.withRxc { s.rxc with sSubtype := sub }
  cases sub with
  | unknown c => exact hrxc.unexpectedS_completes _
  | invalid => exact hrxc.unexpectedS_completes _
  | named n =>
    cases n with
    | wtxReq | resynchRsp | abortRsp | hardResetRsp | endOfSessionRsp | ifsRsp | intfResetRsp | atrRsp =>
      exact completes_next _
    | resynchReq | ifsReq | abortReq | wtxRsp | endOfSessionReq | hardResetReq | atrReq | intfResetReq =>
      exact hrxc.unexpectedS_completes _

/-- The receive dispatch of any frame completes (R180). -/
theorem dispatch_completes {s : State} (h : s.Exchanged) (f : Frame) : Completes (dispatch f s) := by
  have hrxc (k : RxKind) : (setRxKind k (clearOnDecode f s)).Exchanged := (h.cleared f).withRxc _
  cases f with
  | i seq chained p => exact (hrxc .i).dispatchI_completes seq chained p
  | r seq kind err => exact (hrxc .r).dispatchR_completes seq kind err
  | s sub p atr w => exact (hrxc .s).dispatchS_completes sub p atr

theorem dispatchWire_completes {s : State} (h : s.Exchanged) (i : Instr) : Completes (dispatchWire i s) := by
  unfold dispatchWire
  split
  · exact h.dispatch_completes _
  · exact completes_next _

end State.Exchanged

/-! ### The frame of a state -/

/-- The one fragment that a state of the invariant may hold and cannot send (R101; log entry 15). -/
def OverlongLegacy (s : State) : Prop := s.pstate = .sendIframe ∧ s.variant = .legacy ∧ 254 < s.ntx.i.fragLen

theorem exists_encodeS {n : SName} {p : Bytes} (hp : p.length ≤ Config.shortLenMax) (s : State) :
    ∃ F, encodeS s (.named n) p = .frame F :=
  ⟨_, if_pos hp⟩

theorem exists_encodeR_nack {err : ErrClass} (hnone : err ≠ .none) (hundef : err ≠ .undefined) (seq : Bit)
    (s : State) : ∃ F, encodeR s .nack err seq = .frame F := by
  cases err with
  | none => exact absurd rfl hnone
  | undefined => exact absurd rfl hundef
  | parity | other | missing => exact ⟨_, rfl⟩

/-- A fragment of a tracked command lies in its buffer, so only its length can stop the encoder (R42, R101). -/
theorem encodeI_of_tracks {s : State} {x : TxCtx} (hx : tracks x.i) (hb : x.i.buf.isSome = true) :
    (∃ F, encodeI s x = .frame F) ∨ (encodeI s x = .raised ∧ s.variant = .legacy ∧ 254 < x.i.fragLen) := by
  obtain ⟨b, hb⟩ := Option.isSome_iff_exists.mp hb
  obtain ⟨hlen, -, hpos, hrem, hmax, hext, -, -⟩ := hx b hb
  have hext : x.i.fragLen ≤ 65535 := hmax.trans hext
  have hend : x.i.offset + x.i.fragLen ≤ b.len := by omega
  have hfits (hlayout : x.i.fragLen ≤ 254 ∨ (s.variant = .extended ∧ x.i.fragLen ≤ 65535)) :
      ∃ F, encodeI s x = .frame F :=
    ⟨_, (encodeI_of_layout hb hpos hlayout).trans (if_pos hend)⟩
  by_cases hshort : x.i.fragLen ≤ 254
  · exact .inl (hfits (.inl hshort))
  · cases hv : s.variant with
    | extended => exact .inl (hfits (.inr ⟨hv, hext⟩))
    | legacy => exact .inr ⟨encodeI_raised_of_legacy hv (not_le.mp hshort), rfl, not_le.mp hshort⟩

/-- Every send state of the invariant has a frame, but for the overlong fragment (R163, R169). -/
theorem State.Inv.frameFor_cases {s : State} (h : s.Inv) (hp : s.pstate ≠ .idle) :
    (∃ F, frameFor s = .frame F) ∨ (frameFor s = .raised ∧ OverlongLegacy s) := by
  have hpayload : s.ntx.s.payload.length ≤ Config.shortLenMax := h.ntxOk.2
  cases hps : s.pstate with
  | idle => exact absurd hps hp
  | sendIframe =>
    simp only [frameFor, hps]
    rcases encodeI_of_tracks (s := s) (h.ntxTracks hp) (h.sendsCommand hps) with hF | ⟨hraised, hv, hlong⟩
    · exact .inl hF
    · exact .inr ⟨hraised, hps, hv, hlong⟩
  | sendRNack =>
    obtain ⟨⟨hiff, hundef⟩, -⟩ := h.ntxOk
    have hagrees := h.agrees
    simp only [sendStateAgrees, hps, Bool.and_eq_true, decide_eq_true_eq] at hagrees
    have hnone : s.ntx.r.err ≠ .none := by
      intro herr
      have hack := hiff.mpr herr
      rw [hagrees.2] at hack
      cases hack
    simp only [frameFor, hps]
    exact .inl (exists_encodeR_nack hnone hundef _ s)
  | sendRAck | sendLockAcquire =>
    simp only [frameFor, hps]
    exact .inl ⟨_, rfl⟩
  | sendSIfsAdjust | sendSEndOfSession | sendSWtxResponse =>
    simp only [frameFor, hps]
    exact .inl (exists_encodeS hpayload s)
  | sendSResync | sendSIntfReset | sendSHardReset | sendSAtrRequest =>
    simp only [frameFor, hps]
    exact .inl (exists_encodeS (Nat.zero_le _) s)

/-- Inside an operation a `step` completes, or it has the overlong fragment to send (R160, R169). -/
theorem State.Inv.seqStep_outcome {s : State} (h : s.Inv) (hbusy : s.top ≠ .idle) (hp : s.pstate ≠ .idle) :
    Completes (Machine.seqStep s) ∨ (Machine.seqStep s = .refused .encoderRaised ∧ OverlongLegacy s) := by
  rw [Machine.seqStep, if_neg hp]
  rcases exchange_cases s with ⟨r, heq, hr⟩ | ⟨F, -, -, ⟨-, heq⟩ | ⟨-, heq⟩⟩ <;> rw [heq]
  · rcases hr with ⟨hdisagree, -⟩ | ⟨-, hF, rfl⟩ | ⟨-, hF, -⟩
    · rw [h.agrees] at hdisagree
      cases hdisagree
    · rcases h.frameFor_cases hp with ⟨F, hframe⟩ | ⟨-, hlong⟩
      · rw [hframe] at hF
        cases hF
      · exact .inr ⟨rfl, hlong⟩
    · rcases h.frameFor_cases hp with ⟨F, hframe⟩ | ⟨hframe, -⟩ <;> rw [hframe] at hF <;> cases hF
  · exact .inl (completes_next _)
  · rcases receiveFrame_exchanged h hbusy hp F with ⟨u, hu, hx⟩ | ⟨i, u, hu, hx⟩ <;> rw [hu]
    · exact .inl (completes_next _)
    · exact .inl (hx.dispatchWire_completes i)

theorem State.Inv.advance_outcome {s : State} (h : s.Inv) :
    Completes (carryOut (advanceRun s)) ∨
      (carryOut (advanceRun s) = .refused .encoderRaised ∧ OverlongLegacy s) := by
  cases hk : s.ctl with
  | atRest =>
    rw [carryOut_advanceRun_atRest hk]
    exact .inl (completes_next _)
  | running k =>
    by_cases hp : s.pstate = .idle
    · rw [carryOut_advanceRun_idle hk hp]
      exact .inl (completes_next _)
    · rw [carryOut_advanceRun_sending hk hp]
      exact h.seqStep_outcome (by simp [h.atRest, hk]) hp

/-! ### The calls of the host -/

theorem hostOp_completes (valid : Bool) (mode : TopState) (body : State → State) (s : State) :
    Completes (hostOp valid mode body s) := by
  rcases hostOp_cases valid mode body s with ⟨-, heq⟩ | ⟨-, -, heq⟩ | ⟨-, -, heq⟩ <;> exact ⟨_, heq⟩

theorem execSetEndpoint_completes (ep : Option Endpoint) (s : State) : Completes (execSetEndpoint ep s) := by
  unfold execSetEndpoint
  split
  · exact completes_next _
  · split <;> exact completes_next _

theorem execResetEndpoint_completes (s : State) : Completes (execResetEndpoint s) := by
  unfold execResetEndpoint
  split <;> exact completes_next _

theorem finishEncode_completes {r : EncOut} (hr : r ≠ .noValue) (s : State) : Completes (finishEncode r s) := by
  cases r with
  | noValue => exact absurd rfl hr
  | frame F => exact completes_next _
  | raised => exact completes_next _

theorem encodeR_ne_noValue (s : State) (kind : AckKind) (err : ErrClass) (seq : Bit) :
    encodeR s kind err seq ≠ .noValue := by
  unfold encodeR
  split
  · split <;> nofun
  · nofun

theorem encodeS_ne_noValue (s : State) (sub : SSub) (p : Bytes) : encodeS s sub p ≠ .noValue := by
  unfold encodeS
  split
  · split <;> nofun
  · nofun
  · nofun

/-- Whatever the host calls completes, `encode_iframe` apart, whose operand is the host's own (R42, R200, R260). -/
theorem exec_completes_of_hostCallable {i : Instr} (hi : i.hostCallable = true) (henc : ∀ x, i ≠ .encodeIframe x)
    (s : State) : Completes (exec i s) := by
  cases i with
  | openSession m => cases m <;> exact hostOp_completes _ _ _ s
  | acquireLock => exact hostOp_completes true .transceive (fun u => beginRun .acquireLock (loadLock u)) s
  | transceive | release | reset | close | closeAllSessions | setIfs | getIfs | getAtr =>
    exact hostOp_completes _ _ _ s
  | setEndpoint ep => exact execSetEndpoint_completes ep s
  | resetEndpoint => exact execResetEndpoint_completes s
  | computeLrc | checkLrc | decode | powerOnReset => exact completes_next _
  | encodeIframe x => exact absurd rfl (henc x)
  | encodeRframe kind err seq => exact finishEncode_completes (encodeR_ne_noValue s kind err seq) s
  | encodeSframe sub p => exact finishEncode_completes (encodeS_ne_noValue s sub p) s
  | encodeLock x => exact finishEncode_completes (r := encodeL s x) nofun s
  | _ => cases hi

/-! ### One transition -/

/-- The reasons for which a transition of the invariant may be refused (log entries 7, 12 and 15). -/
def RefusedFor (s : State) (r : Refusal) : Prop :=
  (r = .notHostCallable ∧ ∃ i rest, s.hostIn = .call i :: rest ∧ i.hostCallable = false) ∨
  (r = .bufferChangedInUse ∧ ∃ a v rest, s.hostIn = .store a v :: rest) ∨
  (r = .encoderRaised ∧ OverlongLegacy s)

theorem State.Inv.step_outcome {s : State} (h : s.Inv)
    (henc : ∀ x rest, s.hostIn ≠ .call (.encodeIframe x) :: rest) :
    Completes (step s) ∨ ∃ r, step s = .refused r ∧ RefusedFor s r := by
  have advance (rest : List HostEvent) (hstep : step s = carryOut (advanceRun { s with hostIn := rest })) :
      Completes (step s) ∨ ∃ r, step s = .refused r ∧ RefusedFor s r := by
    have hinv : State.Inv { s with hostIn := rest } := { h with }
    rw [hstep]
    rcases hinv.advance_outcome with hnext | ⟨hrefused, hlong⟩
    · exact .inl hnext
    · exact .inr ⟨_, hrefused, .inr (.inr ⟨rfl, hlong⟩)⟩
  cases hh : s.hostIn with
  | nil => exact advance s.hostIn (step_unprompted hh)
  | cons e rest =>
    cases e with
    | quiet => exact advance rest (step_quiet hh)
    | store a v =>
      rw [step_store hh]
      rcases hostStore_cases a v { s with hostIn := rest } with ⟨heq, -⟩ | ⟨heq, -⟩
      · exact .inr ⟨_, heq, .inr (.inl ⟨rfl, a, v, rest, hh⟩)⟩
      · exact .inl ⟨_, heq⟩
    | call i =>
      cases hi : i.hostCallable with
      | false => exact .inr ⟨_, step_call_refused hh hi, .inl ⟨rfl, i, rest, hh, hi⟩⟩
      | true =>
        rw [step_call hh hi]
        refine .inl (exec_completes_of_hostCallable hi ?_ _)
        rintro x rfl
        exact henc x rest hh

/-- Settles O54: every transition completes or is refused for one of the three reasons. -/
theorem stepsOfInvDoNotStop : Obligations.StepsOfInvDoNotStop := by
  intro s h henc
  rcases h.step_outcome henc with ⟨t, hstep⟩ | ⟨r, hstep, hr⟩ <;> rw [hstep]
  · exact ⟨nofun, nofun⟩
  · refine ⟨nofun, fun r' heq => ?_⟩
    cases heq
    exact hr

end Machine
end Sys2Proof
end

section
/-! The frame that `encode_iframe` builds and the operands it raises for; the decoder on frames of each kind. -/

namespace Sys2Proof

/-! ## The layout of an I-frame -/

/-- The length field that follows the PCB of an I-frame with `n` payload bytes (R62, R63, R70). -/
def iframeLenField (n : Nat) : Bytes :=
  if n ≤ Config.shortLenMax then [byteOf n] else Config.lenExtMarker :: be16 n

/-- The two forms of an I-frame differ in the length field alone (R62, R63). -/
theorem frameI_eq_sealFrame (c : Cfg) (addr : Byte) (seq chained : Bit) (inf : Bytes) :
    frameI c addr seq chained inf =
      sealFrame c ([addr, pcbI c seq chained] ++ iframeLenField inf.length ++ inf) := by
  by_cases hshort : inf.length ≤ Config.shortLenMax
  · rw [frameI, if_pos hshort, iframeLenField, if_pos hshort]
    rfl
  · rw [frameI, if_neg hshort, iframeLenField, if_neg hshort]
    rfl

/-! ## The decoder on a frame of each kind -/

section Classified

variable {c : Cfg} {v : Variant} {ep : Endpoint} {addr pcb len : Byte} {rest : Bytes}

/-- A PCB `0.......` is read by `decode_i` (R66, R121). -/
theorem decodeInstr_of_iframe (hrest : rest ≠ []) (hlrc : checkLrc c (addr :: pcb :: len :: rest) = true)
    (haddr : c.rxAddrCheck = true → addr = c.addrRx ep) (h7 : bitOf pcb 7 = false) :
    decodeInstr c v ep (addr :: pcb :: len :: rest) = decodeI c v pcb len rest := by
  rw [decodeInstr_classified hrest hlrc haddr, h7]
  rfl

/-- A PCB `10......` is read by `decode_r` (R66, R121). -/
theorem decodeInstr_of_rframe (hrest : rest ≠ []) (hlrc : checkLrc c (addr :: pcb :: len :: rest) = true)
    (haddr : c.rxAddrCheck = true → addr = c.addrRx ep) (h7 : bitOf pcb 7 = true) (h6 : bitOf pcb 6 = false) :
    decodeInstr c v ep (addr :: pcb :: len :: rest) = decodeR c pcb len rest := by
  rw [decodeInstr_classified hrest hlrc haddr, h7, h6]
  rfl

/-- A PCB `11......` is read by `decode_s` (R66, R121). -/
theorem decodeInstr_of_sframe (hrest : rest ≠ []) (hlrc : checkLrc c (addr :: pcb :: len :: rest) = true)
    (haddr : c.rxAddrCheck = true → addr = c.addrRx ep) (h7 : bitOf pcb 7 = true) (h6 : bitOf pcb 6 = true) :
    decodeInstr c v ep (addr :: pcb :: len :: rest) = decodeS c pcb len rest := by
  rw [decodeInstr_classified hrest hlrc haddr, h7, h6]
  rfl

end Classified

/-- The standard configuration tests no address (R122), so a frame with a right LRC is classified. -/
theorem standard_addr_unchecked (ep : Endpoint) (addr : Byte) :
    Cfg.standard.rxAddrCheck = true → addr = Cfg.standard.addrRx ep := nofun

/-- Settles O50: each word has a right LRC, its PCB selects the kind, and that kind's decoder reads it. -/
theorem decoderReadsSpecWords : Obligations.DecoderReadsSpecWords := by
  have hstd := standard_addr_unchecked .ese 0xA5#8
  refine ⟨?_, ?_, ?_, ?_, ?_, ?_, ?_⟩
  · exact decodeInstr_of_iframe (by decide) (by decide) hstd (by decide)
  · exact decodeInstr_of_iframe (by decide) (by decide) hstd (by decide)
  · exact decodeInstr_of_rframe (by decide) (by decide) hstd (by decide) (by decide)
  · exact decodeInstr_of_rframe (by decide) (by decide) hstd (by decide) (by decide)
  · exact decodeInstr_of_sframe (by decide) (by decide) hstd (by decide) (by decide)
  · exact decodeInstr_of_sframe (by decide) (by decide) hstd (by decide) (by decide)
  · exact decodeInstr_of_rframe (by decide) (by decide) hstd (by decide) (by decide)

namespace Machine

/-! ## `encode_iframe` -/

/-- `encode_iframe` raises for a null buffer, no byte, and a length that no layout of the variant carries
(R100, R101). -/
theorem encodeI_raised_iff {s : State} {x : TxCtx} :
    encodeI s x = .raised ↔
      x.i.buf = none ∨ x.i.fragLen = 0 ∨ (Config.shortLenMax < x.i.fragLen ∧ s.variant = .legacy) ∨
        Config.extLenMax < x.i.fragLen := by
  unfold encodeI
  split_ifs with hbytes hlegacy hext
  · tauto
  · tauto
  · tauto
  · refine iff_of_false ?_ (by tauto)
    split <;> nofun

/-- Settles O3: a fragment in its buffer that a layout carries is encoded as `frameI`, and every other operand of
the statement raises. -/
theorem encodeIframeLayout : Obligations.EncodeIframeLayout := by
  intro s x
  constructor
  · intro b hb hpos hend hlen
    have hframe : encodeI s x =
        .frame (sealFrame s.cfg ([txAddr s, pcbI s.cfg x.i.seq x.i.chained] ++ iframeLenField x.i.fragLen ++
          Memory.slice s.mem (b.base + x.i.offset) x.i.fragLen)) := by
      rw [encodeI_of_layout hb hpos hlen, if_pos hend, frameI_eq_sealFrame, Memory.slice_length]
    show finishEncode (encodeI s x) s = _
    rw [hframe]
    rfl
  · intro hbad
    refine ⟨Config.freeBytes s.tick, s.tick + 1, ?_⟩
    show finishEncode (encodeI s x) s = _
    rw [encodeI_raised_iff.mpr hbad]
    rfl

end Machine
end Sys2Proof
end

section
/-! The laws of the LRC unit, the shape of an encoded frame, and the decoder on encoded frames. -/

namespace Sys2Proof

/-! ## Ranges of the LRC -/

/-- A range splits at any index between its ends (R94 (a)). -/
theorem lrc_split (B : Bytes) {a b n : Nat} (hab : a ≤ b) (hbn : b ≤ n) :
    lrc B a n = xor8 (lrc B a b) (lrc B b n) := by
  have hpre : (B.take b).drop a = ((B.take n).drop a).take (b - a) := by
    rw [← List.drop_take, List.take_take, Nat.min_eq_left hbn]
  have hpost : (B.take n).drop b = ((B.take n).drop a).drop (b - a) := by
    rw [List.drop_drop, Nat.add_sub_cancel' hab]
  rw [lrc, lrc, lrc, hpre, hpost, ← xorFold_append, List.take_append_drop]

/-- The range of one byte. -/
theorem lrc_single (B : Bytes) {i : Nat} (hi : i < B.length) : lrc B i (i + 1) = B[i] := by
  rw [lrc, List.take_add_one, List.getElem?_eq_getElem hi, List.drop_append_of_le_length (by simp; omega)]
  simp [xorFold_cons]

/-- A covered byte enters the LRC once, beside the range before it and the range after it. -/
theorem lrc_around (B : Bytes) {k i n : Nat} (hi : i < B.length) (hki : k ≤ i) (hin : i < n) :
    lrc B k n = xor8 (xor8 (lrc B k i) (lrc B (i + 1) n)) B[i] := by
  rw [lrc_split B hki hin.le, lrc_split B (Nat.le_succ i) hin, lrc_single B hi, xor8_comm B[i], xor8_assoc]

/-- A change outside the range is not seen (R94 (e)). -/
theorem lrc_set_outside (F : Bytes) {k n i : Nat} (v : Byte) (h : i < k ∨ n ≤ i) :
    lrc (F.set i v) k n = lrc F k n := by
  unfold lrc
  rcases h with hbefore | hafter
  · rw [List.take_set, List.drop_set_of_lt hbefore]
  · rw [List.take_set_of_le hafter]

theorem xor8_xor8_cancel (x y : Byte) : xor8 x (xor8 x y) = y := by
  rw [← xor8_assoc, xor8_self, zero_xor8]

/-- Changing one covered byte changes the LRC by the difference of the two values (R94 (c)). -/
theorem lrc_set_inside (F : Bytes) {k n i : Nat} (hi : i < F.length) (hki : k ≤ i) (hin : i < n) (v : Byte) :
    lrc (F.set i v) k n = xor8 (lrc F k n) (xor8 F[i] v) := by
  have hi' : i < (F.set i v).length := by rwa [List.length_set]
  rw [lrc_around _ hi' hki hin, lrc_around F hi hki hin, lrc_set_outside F v (.inr le_rfl),
    lrc_set_outside F v (.inl i.lt_succ_self), List.getElem_set_self hi', xor8_assoc _ F[i],
    xor8_xor8_cancel]

theorem xor8_ne_zero {x y : Byte} (h : y ≠ x) : xor8 x y ≠ 0x00#8 := fun hzero =>
  h (by rw [← xor8_xor8_cancel x y, hzero, xor8_zero])

theorem xor8_eq_right_iff {x y : Byte} : xor8 x y = y ↔ x = 0x00#8 := by
  constructor
  · intro h
    rw [← xor8_xor8_cancel y x, xor8_comm y x, h, xor8_self]
  · rintro rfl
    exact zero_xor8 y

/-- Covered bytes followed by their LRC have the LRC zero (R94 (b)). -/
theorem lrc_append_self (F : Bytes) {k : Nat} (hk : k ≤ F.length) :
    lrc (F ++ [lrc F k F.length]) k (F.length + 1) = 0x00#8 := by
  rw [lrc_split _ hk (Nat.le_succ _), lrc_append_of_le _ _ _ _ le_rfl, lrc_single _ (by simp)]
  simp

/-- Two changes by the same difference cancel (R94 (d)). -/
theorem lrc_set_set (F : Bytes) {k n i j : Nat} (hi : i < F.length) (hj : j < F.length) (d : Byte)
    (hki : k ≤ i) (hkj : k ≤ j) (hin : i < n) (hjn : j < n) (hij : i ≠ j) :
    lrc ((F.set i (xor8 F[i] d)).set j (xor8 F[j] d)) k n = lrc F k n := by
  have hj' : j < (F.set i (xor8 F[i] d)).length := by rwa [List.length_set]
  rw [lrc_set_inside _ hj' hkj hjn, List.getElem_set_ne hij, lrc_set_inside F hi hki hin, xor8_xor8_cancel,
    xor8_xor8_cancel, xor8_assoc, xor8_self, xor8_zero]

/-- Changing one covered byte before the last fails the check (R94 (c)). -/
theorem checkLrc_set (c : Cfg) (F : Bytes) {i : Nat} (hi : i < F.length) (v : Byte) (hF : checkLrc c F = true)
    (hfrom : c.lrcDecFrom.val ≤ i) (hlast : i + 1 < F.length) (hv : v ≠ F[i]) :
    checkLrc c (F.set i v) = false := by
  have hlrc : lrc (F.set i v) c.lrcDecFrom.val (F.length - 1) ≠ lrc F c.lrcDecFrom.val (F.length - 1) := by
    rw [lrc_set_inside F hi hfrom (by omega), xor8_comm]
    exact fun h => xor8_ne_zero hv (xor8_eq_right_iff.mp h)
  have hsame : (F.set i v).getLast? = F.getLast? := by
    rw [List.getLast?_eq_getElem?, List.getLast?_eq_getElem?, List.length_set, List.getElem?_set_ne (by omega)]
  rw [checkLrc, beq_iff_eq] at hF
  rw [checkLrc, hsame, List.length_set, hF, beq_eq_false_iff_ne, ne_eq, Option.some.injEq]
  exact hlrc.symm

/-- Settles O48: the laws of `xor8`, and one lemma for each of the consequences (a) to (e). -/
theorem lrcLaws : Obligations.LrcLaws := by
  refine ⟨fun x y z => ⟨xor8_comm x y, xor8_assoc x y z, xor8_zero x, xor8_self x⟩,
    fun B _ _ _ hab hbc => lrc_split B hab hbc, ?_, ?_, fun c F _ hi v => checkLrc_set c F hi v, ?_,
    fun F _ _ _ v h => lrc_set_outside F v h⟩
  · rintro F k x hk rfl
    exact lrc_append_self F hk
  · intro F k i hi v hki hv
    exact ⟨lrc_set_inside F hi hki hi v, xor8_ne_zero hv⟩
  · intro F k i j hi hj d hki hkj hij
    exact lrc_set_set F hi hj d hki hkj hi hj hij

/-! ## The LRC operations -/

/-- Settles O1: the operation's value in the domain of R90 is the fold. -/
theorem computeLrcFoldsRange : Obligations.ComputeLrcFoldsRange := by
  intro s buf offset stop hstop
  have hexec : Machine.exec (.computeLrc buf offset stop) s = Machine.execComputeLrc buf offset stop s := rfl
  rw [hexec, Machine.execComputeLrc, if_pos hstop]
  rfl

/-- The check of a sequence with its last byte split off (R93). -/
theorem checkLrc_concat (c : Cfg) (body : Bytes) (last : Byte) :
    checkLrc c (body ++ [last]) = decide (last = xorFold (body.drop c.lrcDecFrom.val)) := by
  have hrange : lrc (body ++ [last]) c.lrcDecFrom.val (body.length + 1 - 1) = xorFold (body.drop c.lrcDecFrom.val) := by
    rw [Nat.add_sub_cancel, lrc_append_of_le _ _ _ _ le_rfl, lrc, List.take_length]
  rw [checkLrc, List.getLast?_concat, List.length_append, List.length_singleton, hrange]
  rfl

/-- Settles O2: at least two bytes are in the domain of R93, where the value is the comparison. -/
theorem checkLrcComparesLastByte : Obligations.CheckLrcComparesLastByte := by
  intro s body last hbody
  have hlen : 2 ≤ (body ++ [last]).length := by
    rw [List.length_append, List.length_singleton]
    omega
  have hexec : Machine.exec (.checkLrc (body ++ [last])) s = Machine.execCheckLrc (body ++ [last]) s := rfl
  rw [hexec, Machine.execCheckLrc, if_pos hlen, checkLrc_concat]
  rfl

/-! ## The shape of an encoded frame -/

/-- The ranges of R92 and R93 begin at byte 0 or 1, so they give a body the same LRC exactly when they begin
together or its first byte is zero (R95). -/
theorem lrc_from_eq_iff (addr : Byte) (B : Bytes) (j k : Fin 2) :
    lrc (addr :: B) j (addr :: B).length = lrc (addr :: B) k (addr :: B).length ↔ j = k ∨ addr = 0x00#8 := by
  have hdiffer : lrc (addr :: B) 0 (addr :: B).length = lrc (addr :: B) 1 (addr :: B).length ↔ addr = 0x00#8 := by
    rw [lrc_split _ (Nat.zero_le 1) (by simp), lrc_single _ (by simp)]
    exact xor8_eq_right_iff
  match j, k with
  | 0, 0 | 1, 1 => simp
  | 0, 1 => exact hdiffer.trans (by simp)
  | 1, 0 => exact eq_comm.trans (hdiffer.trans (by simp))

/-- An encoded frame passes the check exactly when R95 says so. -/
theorem checkLrc_sealFrame_iff (c : Cfg) (addr : Byte) (B : Bytes) :
    checkLrc c (sealFrame c (addr :: B)) = true ↔ c.lrcEncFrom = c.lrcDecFrom ∨ addr = 0x00#8 := by
  rw [checkLrc_sealFrame, lrc_from_eq_iff]

/-- The payload a frame record carries; an R-frame carries none (R120). -/
def Frame.payload : Frame → Bytes
  | .i _ _ p => p
  | .r _ _ _ => []
  | .s _ p _ _ => p

/-- Every frame but the extended I-frame has a length byte after its PCB, and then its payload (R62, R64, R65). -/
theorem encode_of_ne_iExt {c : Cfg} {addr : Byte} {i : Instr} {f : Frame} {F : Bytes}
    (hext : ¬ ∃ q m p, i = .iExt q m p) (hf : i.toFrame = some f) (hF : encode c addr i = some F) :
    ∃ pcb, F = sealFrame c (addr :: pcb :: byteOf f.payload.length :: f.payload) := by
  cases i with
  | iExt q m p => exact absurd ⟨q, m, p, rfl⟩ hext
  | iShort | lock | rAck | rNackParity | rNackOther | rNackMissing | rUndefBit5 | rUndefBit3 | rUndefBit2
  | sResynchReq | sResynchRsp | sIfsReq | sIfsRsp | sAbortReq | sAbortRsp | sWtxReq | sWtxRsp
  | sEndOfSessionReq | sEndOfSessionRsp | sHardResetReq | sHardResetRsp | sAtrReq | sAtrRsp
  | sIntfResetReq | sIntfResetRsp | sUnknown =>
    cases hf
    cases hF
    exact ⟨_, rfl⟩
  | _ => cases hF

/-- The address byte, the LRC byte and the check of a sealed frame (R60, R92, R95). -/
theorem sealFrame_shape (c : Cfg) (addr pcb len : Byte) (rest : Bytes) :
    let F := sealFrame c (addr :: pcb :: len :: rest)
    F.head? = some addr ∧ F.getLast? = some (lrc F c.lrcEncFrom.val (F.length - 1)) ∧
      (checkLrc c F = true ↔ (c.lrcEncFrom = c.lrcDecFrom ∨ addr = 0x00#8)) := by
  obtain ⟨hhead, -, hlast⟩ := Laws.FrameShape.of_sealed c addr pcb len rest
  exact ⟨hhead, hlast, checkLrc_sealFrame_iff c addr (pcb :: len :: rest)⟩

/-- Settles O49: the extended I-frame has a length field of three bytes and every other frame one of one byte; the
rest is the shape of a sealed frame. -/
theorem encodedFramesShape : Obligations.EncodedFramesShape := by
  intro c addr i f F hf hF payload isExt
  have hpayload : payload = f.payload := by cases f <;> rfl
  by_cases hext : isExt
  · obtain ⟨q, m, p, rfl⟩ := id hext
    cases hf
    cases hF
    exact ⟨fun _ => ⟨by simp [frameIExt, be16, hpayload, Frame.payload], rfl⟩, absurd hext, sealFrame_shape ..⟩
  · obtain ⟨pcb, rfl⟩ := encode_of_ne_iExt hext hf hF
    rw [hpayload]
    exact ⟨fun h => absurd h hext, fun _ => ⟨by simp, rfl⟩, sealFrame_shape ..⟩

end Sys2Proof
end

section
/-! The decoder on the frames the encoder writes (R129). -/

namespace Sys2Proof

/-! ## The PCB and the length field of an encoded frame -/

theorem bitOf_or (x y : Byte) (j : Nat) : bitOf (x ||| y) j = (bitOf x j || bitOf y j) := BitVec.getLsbD_or

theorem bitOf_bitAt {k : Nat} (hk : k < 8) (b : Bit) (j : Nat) : bitOf (bitAt k b) j = (decide (j = k) && b) := by
  cases b with
  | false => simp [bitOf, bitAt]
  | true =>
    have hbit : (1#8 <<< k).getLsbD j = decide (j = k) := by
      rw [← BitVec.twoPow_eq, BitVec.getLsbD_twoPow]
      simp [hk, eq_comm]
    simp [bitOf, bitAt, hbit]

/-- A bit of an I-frame's PCB is the sequence bit, the chaining bit or zero (R67). -/
theorem bitOf_pcbI (c : Cfg) (seq chained : Bit) (j : Nat) :
    bitOf (pcbI c seq chained) j =
      ((decide (j = c.iSeqBit.val) && seq) || (decide (j = c.iChainBit.val) && chained)) := by
  rw [pcbI, bitOf_or, bitOf_bitAt c.iSeqBit.isLt, bitOf_bitAt c.iChainBit.isLt]

/-- In a well-formed configuration the PCB of an I-frame has its class bit clear and holds both operands (R67). -/
theorem bits_pcbI {c : Cfg} (hwf : c.wf) (seq chained : Bit) :
    bitOf (pcbI c seq chained) 7 = false ∧ bitOf (pcbI c seq chained) c.iSeqBit = seq ∧
      bitOf (pcbI c seq chained) c.iChainBit = chained := by
  obtain ⟨⟨hseq, hchain, hne⟩, -⟩ := hwf
  have hval : c.iSeqBit.val ≠ c.iChainBit.val := Fin.val_ne_of_ne hne
  simp [bitOf_pcbI, hval, hval.symm, hseq.ne', hchain.ne']

/-- The PCB of an R-frame: the class bits `10`, no reserved bit, the sequence bit and the code (R68). -/
theorem bits_pcbR {c : Cfg} (hseq : c.rSeqBit.val = 4) (seq : Bit) (code : BitVec 2) :
    (bitOf (pcbR c seq code) 7 = true ∧ bitOf (pcbR c seq code) 6 = false) ∧
      (bitOf (pcbR c seq code) 5 = false ∧ bitOf (pcbR c seq code) 3 = false ∧ bitOf (pcbR c seq code) 2 = false) ∧
      bitOf (pcbR c seq code) c.rSeqBit = seq ∧ (pcbR c seq code).extractLsb' 0 2 = code := by
  rw [pcbR, hseq]
  revert seq code
  decide

/-- Without a reserved bit the code selects the class (R68, R126). -/
theorem rInstr_pcbR {c : Cfg} (hseq : c.rSeqBit.val = 4) (seq : Bit) (code : BitVec 2) :
    rInstr c (pcbR c seq code) =
      if c.rErrNone = code then .rAck seq
      else if c.rErrParity = code then .rNackParity seq
      else if c.rErrOther = code then .rNackOther seq
      else .rNackMissing seq := by
  obtain ⟨-, ⟨h5, h3, h2⟩, hn, hcode⟩ := bits_pcbR hseq seq code
  simp [rInstr, h5, h3, h2, hn, hcode, eq_comm]

/-- Where the four codes differ, each selects its own class (R68). -/
theorem rInstr_pcbR_rErrCode {c : Cfg} (hseq : c.rSeqBit.val = 4)
    (hcodes : [c.rErrNone, c.rErrParity, c.rErrOther, c.rErrMissing].Nodup) :
    (∀ seq, rInstr c (pcbR c seq c.rErrNone) = .rAck seq) ∧
      (∀ seq, rInstr c (pcbR c seq c.rErrParity) = .rNackParity seq) ∧
      (∀ seq, rInstr c (pcbR c seq c.rErrOther) = .rNackOther seq) ∧
      (∀ seq, rInstr c (pcbR c seq c.rErrMissing) = .rNackMissing seq) := by
  simp only [List.nodup_cons, List.mem_cons, not_or] at hcodes
  simp [rInstr_pcbR hseq, hcodes]

/-- One reserved bit selects its row of `R.UNDEF` (R68, R126). -/
theorem rInstr_pcbR_reserved {c : Cfg} (hseq : c.rSeqBit.val = 4) :
    (∀ seq, rInstr c (pcbR c seq 0#2 ||| 0x20#8) = .rUndefBit5 seq) ∧
      (∀ seq, rInstr c (pcbR c seq 0#2 ||| 0x08#8) = .rUndefBit3 seq) ∧
      (∀ seq, rInstr c (pcbR c seq 0#2 ||| 0x04#8) = .rUndefBit2 seq) := by
  simp only [rInstr, pcbR, hseq]
  refine ⟨?_, ?_, ?_⟩ <;> rintro (_ | _) <;> rfl

/-- A further bit below the class bits keeps an R-frame an R-frame (R66). -/
theorem class_pcbR_or {c : Cfg} (hseq : c.rSeqBit.val = 4) (seq : Bit) (code : BitVec 2) {x : Byte}
    (hx : bitOf x 6 = false) :
    bitOf (pcbR c seq code ||| x) 7 = true ∧ bitOf (pcbR c seq code ||| x) 6 = false := by
  obtain ⟨⟨h7, h6⟩, -⟩ := bits_pcbR hseq seq code
  rw [bitOf_or, bitOf_or, h7, h6, hx]
  exact ⟨Bool.true_or _, rfl⟩

/-- The class bits of an S-frame's PCB (R66, R69). -/
theorem class_pcbS (x : Byte) : bitOf (0xC0#8 ||| x) 7 = true ∧ bitOf (0xC0#8 ||| x) 6 = true := by
  rw [bitOf_or, bitOf_or]
  exact ⟨rfl, rfl⟩

/-- The low six bits of an S-frame's PCB are its code (R69). -/
theorem extractLsb'_class_or (x : Byte) : (0xC0#8 ||| x).extractLsb' 0 6 = x.setWidth 6 := by
  rw [BitVec.extractLsb'_or, ← BitVec.setWidth_eq_extractLsb' (x := x) (by decide)]
  exact BitVec.zero_or

theorem SName.mem_all (n : SName) : n ∈ SName.all := by cases n <;> decide

/-- Where the sixteen codes differ, a subtype is found by its code (R72, R127). -/
theorem subtypeOf_sCode6 {c : Cfg} (hcodes : (SName.all.map c.sCode6).Nodup) (n : SName) :
    c.subtypeOf (c.sCode6 n) = some n := by
  obtain ⟨m, hm⟩ : ∃ m, c.subtypeOf (c.sCode6 n) = some m :=
    Option.isSome_iff_exists.mp (List.find?_isSome.mpr ⟨n, n.mem_all, decide_eq_true rfl⟩)
  have hcode : c.sCode6 m = c.sCode6 n := by simpa using List.find?_some hm
  rw [hm, List.inj_on_of_nodup_map hcodes m.mem_all n.mem_all hcode]

theorem toNat_byteOf {n : Nat} (hn : n ≤ Config.shortLenMax) : (byteOf n).toNat = n :=
  Nat.mod_eq_of_lt (Nat.lt_of_le_of_lt hn (by decide))

theorem byteOf_ne_lenExtMarker {n : Nat} (hn : n ≤ Config.shortLenMax) : byteOf n ≠ Config.lenExtMarker := by
  intro h
  have hnat : n = 255 := by rw [← toNat_byteOf hn, h]; rfl
  exact absurd hn (by rw [hnat]; decide)

/-- The extended length field holds every length up to 65535 (R63, R70). -/
theorem natOfBe16_byteOf {n : Nat} (hn : n ≤ Config.extLenMax) :
    natOfBe16 (byteOf (n / 256)) (byteOf (n % 256)) = n := by
  have hmax : n ≤ 65535 := hn
  simp only [natOfBe16, byteOf, BitVec.toNat_ofNat]
  omega

/-! ## The decoders of the three kinds on a payload and the byte after it -/

/-- `decode_i` on the short form (R124). -/
theorem decodeI_short {p : Bytes} (hp : p.length ≤ Config.shortLenMax) (c : Cfg) (v : Variant) (pcb x : Byte) :
    decodeI c v pcb (byteOf p.length) (p ++ [x]) = .ok (.iShort (bitOf pcb c.iSeqBit) (bitOf pcb c.iChainBit) p) := by
  unfold decodeI
  rw [if_neg (byteOf_ne_lenExtMarker hp), toNat_byteOf hp, if_pos (by simp), List.take_left]

/-- `decode_i` on the extended form (R124). -/
theorem decodeI_ext {p : Bytes} (hp : p.length ≤ Config.extLenMax) (c : Cfg) (pcb x : Byte) :
    decodeI c .extended pcb Config.lenExtMarker (be16 p.length ++ p ++ [x]) =
      .ok (.iExt (bitOf pcb c.iSeqBit) (bitOf pcb c.iChainBit) p) := by
  simp [decodeI, be16, natOfBe16_byteOf hp]

/-- `decode_s` on the code and the payload (R127). -/
theorem decodeS_payload {p : Bytes} (hp : p.length ≤ Config.shortLenMax) (c : Cfg) (x y : Byte) :
    decodeS c (0xC0#8 ||| x) (byteOf p.length) (p ++ [y]) =
      .ok ((c.subtypeOf (x.setWidth 6)).elim (.sUnknown (x.setWidth 6) p) (sInstr · p)) := by
  rw [decodeS, if_neg (byteOf_ne_lenExtMarker hp), toNat_byteOf hp, if_pos (by simp), List.take_left,
    extractLsb'_class_or]
  cases c.subtypeOf (x.setWidth 6) <;> rfl

/-! ## The round trip of each frame format -/

/-- A sealed frame is its fields, its body and an LRC byte that passes the check (R92, R95). -/
theorem sealFrame_passes {c : Cfg} {addr : Byte} (hlrc : c.lrcEncFrom = c.lrcDecFrom ∨ addr = 0x00#8)
    (pcb len : Byte) (body : Bytes) :
    ∃ x, sealFrame c (addr :: pcb :: len :: body) = addr :: pcb :: len :: (body ++ [x]) ∧
      checkLrc c (addr :: pcb :: len :: (body ++ [x])) = true :=
  ⟨_, rfl, (checkLrc_sealFrame_iff c addr (pcb :: len :: body)).mpr hlrc⟩

section RoundTrip

variable {c : Cfg} {v : Variant} {ep : Endpoint} {addr : Byte}
  (hlrc : c.lrcEncFrom = c.lrcDecFrom ∨ addr = 0x00#8) (haddr : c.rxAddrCheck = true → addr = c.addrRx ep)

include hlrc haddr

theorem decodeInstr_frameIShort (hwf : c.wf) (seq chained : Bit) {p : Bytes} (hp : p.length ≤ Config.shortLenMax) :
    decodeInstr c v ep (frameIShort c addr seq chained p) = .ok (.iShort seq chained p) := by
  obtain ⟨h7, hseq, hchained⟩ := bits_pcbI hwf seq chained
  obtain ⟨x, hF, hpass⟩ := sealFrame_passes hlrc (pcbI c seq chained) (byteOf p.length) p
  calc
    _ = decodeI c v (pcbI c seq chained) (byteOf p.length) (p ++ [x]) :=
      (congrArg _ hF).trans (decodeInstr_of_iframe (by simp) hpass haddr h7)
    _ = _ := by rw [decodeI_short hp, hseq, hchained]

theorem decodeInstr_frameIExt (hwf : c.wf) (seq chained : Bit) {p : Bytes} (hp : p.length ≤ Config.extLenMax) :
    decodeInstr c .extended ep (frameIExt c addr seq chained p) = .ok (.iExt seq chained p) := by
  obtain ⟨h7, hseq, hchained⟩ := bits_pcbI hwf seq chained
  obtain ⟨x, hF, hpass⟩ := sealFrame_passes hlrc (pcbI c seq chained) Config.lenExtMarker (be16 p.length ++ p)
  calc
    _ = decodeI c .extended (pcbI c seq chained) Config.lenExtMarker (be16 p.length ++ p ++ [x]) :=
      (congrArg _ hF).trans (decodeInstr_of_iframe (by simp) hpass haddr h7)
    _ = _ := by rw [decodeI_ext hp, hseq, hchained]

/-- A frame of class `10` with no payload is read by its PCB alone (R64, R126). -/
theorem decodeInstr_frameEmpty {pcb : Byte} {i : Instr} (hclass : bitOf pcb 7 = true ∧ bitOf pcb 6 = false)
    (hi : rInstr c pcb = i) : decodeInstr c v ep (frameEmpty c addr pcb) = .ok i := by
  obtain ⟨h7, h6⟩ := hclass
  obtain ⟨x, hF, hpass⟩ := sealFrame_passes hlrc pcb 0x00#8 []
  rw [frameEmpty, hF, decodeInstr_of_rframe (by simp) hpass haddr h7 h6, decodeR, if_pos ⟨rfl, rfl⟩, hi]

/-- An S-frame is read by its code (R65, R127). -/
theorem decodeInstr_frameS (x : Byte) {p : Bytes} (hp : p.length ≤ Config.shortLenMax) :
    decodeInstr c v ep (frameS c addr (0xC0#8 ||| x) p) =
      .ok ((c.subtypeOf (x.setWidth 6)).elim (.sUnknown (x.setWidth 6) p) (sInstr · p)) := by
  obtain ⟨h7, h6⟩ := class_pcbS x
  obtain ⟨y, hF, hpass⟩ := sealFrame_passes hlrc (0xC0#8 ||| x) (byteOf p.length) p
  calc
    _ = decodeS c (0xC0#8 ||| x) (byteOf p.length) (p ++ [y]) :=
      (congrArg _ hF).trans (decodeInstr_of_sframe (by simp) hpass haddr h7 h6)
    _ = _ := decodeS_payload hp c x y

theorem decodeInstr_frameS_named (hcodes : (SName.all.map c.sCode6).Nodup) (n : SName) {p : Bytes}
    (hp : p.length ≤ Config.shortLenMax) :
    decodeInstr c v ep (frameS c addr (pcbS c n) p) = .ok (sInstr n p) := by
  have hcode : c.subtypeOf ((bitAt c.sRspBit n.isRsp ||| (c.sCode n.stype).setWidth 8).setWidth 6) = some n :=
    subtypeOf_sCode6 hcodes n
  rw [pcbS, BitVec.or_assoc, decodeInstr_frameS hlrc haddr _ hp, hcode]
  rfl

theorem decodeInstr_frameS_unknown {code : BitVec 6} (hcode : c.subtypeOf code = none) {p : Bytes}
    (hp : p.length ≤ Config.shortLenMax) :
    decodeInstr c v ep (frameS c addr (0xC0#8 ||| code.setWidth 8) p) = .ok (.sUnknown code p) := by
  rw [decodeInstr_frameS hlrc haddr _ hp, BitVec.setWidth_setWidth_of_le _ (by decide), BitVec.setWidth_eq, hcode]
  rfl

end RoundTrip

/-- Settles O51: each instruction's frame has one of the formats above, and an operation with no frame is no case. -/
theorem decodeEncodeRoundTrip : Obligations.DecodeEncodeRoundTrip := by
  intro c v ep addr i F hwf hi hF hlrc haddr hext
  obtain ⟨-, hseq, -, herr, hcodes, -⟩ := id hwf
  obtain ⟨hnone, hparity, hother, hmissing⟩ := rInstr_pcbR_rErrCode hseq herr
  obtain ⟨hbit5, hbit3, hbit2⟩ := rInstr_pcbR_reserved hseq
  cases i with
  | iShort q m p =>
    cases hF
    exact decodeInstr_frameIShort hlrc haddr hwf q m (of_decide_eq_true hi)
  | iExt q m p =>
    cases hF
    cases hext q m p rfl
    exact decodeInstr_frameIExt hlrc haddr hwf q m (of_decide_eq_true hi)
  | lock q =>
    cases hF
    exact decodeInstr_frameIShort hlrc haddr hwf q false (p := []) (Nat.zero_le _)
  | rAck n =>
    cases hF
    exact decodeInstr_frameEmpty hlrc haddr (bits_pcbR hseq n _).1 (hnone n)
  | rNackParity n =>
    cases hF
    exact decodeInstr_frameEmpty hlrc haddr (bits_pcbR hseq n _).1 (hparity n)
  | rNackOther n =>
    cases hF
    exact decodeInstr_frameEmpty hlrc haddr (bits_pcbR hseq n _).1 (hother n)
  | rNackMissing n =>
    cases hF
    exact decodeInstr_frameEmpty hlrc haddr (bits_pcbR hseq n _).1 (hmissing n)
  | rUndefBit5 n =>
    cases hF
    exact decodeInstr_frameEmpty hlrc haddr (class_pcbR_or hseq n _ rfl) (hbit5 n)
  | rUndefBit3 n =>
    cases hF
    exact decodeInstr_frameEmpty hlrc haddr (class_pcbR_or hseq n _ rfl) (hbit3 n)
  | rUndefBit2 n =>
    cases hF
    exact decodeInstr_frameEmpty hlrc haddr (class_pcbR_or hseq n _ rfl) (hbit2 n)
  | sResynchReq | sResynchRsp | sIfsReq | sIfsRsp | sAbortReq | sAbortRsp | sWtxReq | sWtxRsp
  | sEndOfSessionReq | sEndOfSessionRsp | sHardResetReq | sHardResetRsp | sAtrReq | sAtrRsp
  | sIntfResetReq | sIntfResetRsp =>
    cases hF
    exact decodeInstr_frameS_named hlrc haddr hcodes _ (of_decide_eq_true hi)
  | sUnknown code p =>
    cases hF
    obtain ⟨hp, hcode⟩ := Bool.and_eq_true_iff.mp hi
    exact decodeInstr_frameS_unknown hlrc haddr (of_decide_eq_true hcode) (of_decide_eq_true hp)
  | _ => cases hF

end Sys2Proof
end

section
/-! The frames that `encode_rframe`, `encode_sframe` and `encode_lock` build and the operands they raise for; where a
`step` completes. -/

namespace Sys2Proof

/-- An unchained PCB holds the sequence bit alone (R67, R108). -/
theorem pcbI_unchained (c : Cfg) (seq : Bit) : pcbI c seq false = bitAt c.iSeqBit seq := by
  simp [pcbI, bitAt]

theorem Cfg.rErrCode_eq_none_iff {c : Cfg} {err : ErrClass} : c.rErrCode err = none ↔ err = .undefined := by
  cases err <;> simp [Cfg.rErrCode]

namespace Machine

/-! ## `encode_rframe`, `encode_sframe` and `encode_lock` -/

/-- A consistent pair whose class has a code is encoded (R102). -/
theorem encodeR_of_code {s : State} {kind : AckKind} {err : ErrClass} {code : BitVec 2}
    (hcode : s.cfg.rErrCode err = some code) (hpair : kind = .ack ↔ err = .none) (seq : Bit) :
    encodeR s kind err seq = .frame (frameEmpty s.cfg (txAddr s) (pcbR s.cfg seq code)) := by
  rw [encodeR, if_pos hpair, hcode]

/-- `encode_rframe` raises for an inconsistent pair and for the undefined-error class (R102). -/
theorem encodeR_raised_iff {s : State} {kind : AckKind} {err : ErrClass} {seq : Bit} :
    encodeR s kind err seq = .raised ↔ ¬ (kind = .ack ↔ err = .none) ∨ err = .undefined := by
  by_cases hpair : kind = .ack ↔ err = .none
  · cases hcode : s.cfg.rErrCode err with
    | none =>
      rw [encodeR, if_pos hpair, hcode]
      exact iff_of_true rfl (.inr (Cfg.rErrCode_eq_none_iff.mp hcode))
    | some code =>
      rw [encodeR_of_code hcode hpair]
      refine iff_of_false nofun (not_or.mpr ⟨not_not.mpr hpair, fun hundef => ?_⟩)
      rw [Cfg.rErrCode_eq_none_iff.mpr hundef] at hcode
      cases hcode
  · rw [encodeR, if_neg hpair]
    exact iff_of_true rfl (.inl hpair)

/-- `encode_sframe` raises for a subtype without a name and for a payload that no length byte carries (R103). -/
theorem encodeS_raised_iff {s : State} {sub : SSub} {p : Bytes} :
    encodeS s sub p = .raised ↔ sub = .invalid ∨ (∃ c, sub = .unknown c) ∨ Config.shortLenMax < p.length := by
  cases sub with
  | invalid => exact iff_of_true rfl (.inl rfl)
  | unknown c => exact iff_of_true rfl (.inr (.inl ⟨c, rfl⟩))
  | named n =>
    simp only [encodeS, reduceCtorEq, exists_const, false_or]
    split_ifs with hshort
    · exact iff_of_false nofun (not_lt.mpr hshort)
    · exact iff_of_true rfl (not_le.mp hshort)

/-- An encode operation that raises answers `InvalidParameter` and leaves some contents in `TXF` (R104). -/
theorem finishEncode_raised {r : EncOut} (hr : r = .raised) (s : State) :
    ∃ G n, finishEncode r s = .next { s with txf := G, tick := n, ret := .err .invalidParameter } := by
  rw [hr]
  exact ⟨_, _, rfl⟩

/-- Settles O4: the pairs that have a frame, and by `encodeR_raised_iff` the pairs that raise. -/
theorem encodeRframeLayout : Obligations.EncodeRframeLayout := by
  intro s kind err seq
  constructor
  · intro code hcode hpair
    show finishEncode (encodeR s kind err seq) s = _
    rw [encodeR_of_code hcode hpair]
    rfl
  · exact fun hbad => finishEncode_raised (encodeR_raised_iff.mpr hbad) s

/-- Settles O5: a named subtype with a short payload is encoded as `frameS`, and by `encodeS_raised_iff` every other
operand raises. -/
theorem encodeSframeLayout : Obligations.EncodeSframeLayout := by
  intro s sub p
  constructor
  · rintro n rfl hshort
    have hframe : encodeS s (.named n) p = .frame (frameS s.cfg (txAddr s) (pcbS s.cfg n) p) := if_pos hshort
    show finishEncode (encodeS s (.named n) p) s = _
    rw [hframe]
    rfl
  · exact fun hbad => finishEncode_raised (encodeS_raised_iff.mpr hbad) s

/-- Settles O6: the lock frame is the empty frame of an unchained PCB. -/
theorem encodeLockLayout : Obligations.EncodeLockLayout := by
  intro s x
  show finishEncode (encodeL s x) s = _
  rw [encodeL, pcbI_unchained]
  rfl

/-! ## The reactions of the receive dispatch -/

/-- How the dispatch reacts to a frame, as far as its completion goes: it answers at once, or it ends in the guard or
in `advance`, with the contexts of `s`; a replay only of an S-frame (R194), `advance` only of a chained fragment
(R184). -/
inductive Reaction (s : State) : Result → Prop where
  | next (t : State) : Reaction s (.next t)
  | guarded {a : GuardedAction} {u : State} (hltx : u.ltx = s.ltx) (ha : a = .replayS → s.ltx.ftype = .s) :
      Reaction s (guarded a u)
  | advance {u : State} (hntx : u.ntx = s.ntx) (hchained : s.ltx.i.chained = true) :
      Reaction s (advanceFragment u)

theorem Reaction.of_contexts {s t : State} {r : Result} (h : Reaction t r) (hltx : t.ltx = s.ltx)
    (hntx : t.ntx = s.ntx) : Reaction s r := by
  cases h with
  | next u => exact .next u
  | guarded hu ha => exact .guarded (hu.trans hltx) (hltx ▸ ha)
  | advance hu hc => exact .advance (hu.trans hntx) (hltx ▸ hc)

theorem dispatchI_reaction (seq chained : Bit) (p : Bytes) (s : State) :
    Reaction s (dispatchI seq chained p s) := by
  unfold dispatchI
  split
  · exact .next _
  · exact .guarded rfl nofun

theorem dispatchR_reaction (seq : Bit) (kind : AckKind) (err : ErrClass) (s : State) :
    Reaction s (dispatchR seq kind err s) := by
  unfold dispatchR
  dsimp only
  split
  · rename_i hack
    simp only [ackAdvances, Bool.and_eq_true] at hack
    obtain ⟨⟨-, hchained⟩, -⟩ := hack
    exact .advance rfl hchained
  · exact .guarded rfl nofun

theorem unexpectedS_reaction (c : Cause) (s : State) : Reaction s (unexpectedS c s) := by
  refine .guarded rfl ?_
  split
  · rename_i hlast
    simp only [lastSentNonWtxS, Bool.and_eq_true, decide_eq_true_eq] at hlast
    exact fun _ => hlast.1
  · exact nofun

theorem dispatchS_reaction (sub : SSub) (p : Bytes) (atr : Option AtrFields) (s : State) :
    Reaction s (dispatchS sub p atr s) := by
  have hunexpected (c : Cause) :
      Reaction s (unexpectedS c { s with rxc := { s.rxc with sSubtype := sub } }) :=
    (unexpectedS_reaction c _).of_contexts rfl rfl
  cases sub with
  | unknown c => exact hunexpected _
  | invalid => exact hunexpected _
  | named n =>
    cases n with
    | wtxReq | resynchRsp | abortRsp | hardResetRsp | endOfSessionRsp | ifsRsp | intfResetRsp | atrRsp =>
      exact .next _
    | resynchReq | ifsReq | abortReq | wtxRsp | endOfSessionReq | hardResetReq | atrReq | intfResetReq =>
      exact hunexpected _

theorem clearOnDecode_ltx (f : Frame) (s : State) : (clearOnDecode f s).ltx = s.ltx := by
  unfold clearOnDecode
  split <;> rfl

theorem clearOnDecode_ntx (f : Frame) (s : State) : (clearOnDecode f s).ntx = s.ntx := by
  unfold clearOnDecode
  split <;> rfl

/-- The dispatch of every frame is one of the three reactions (R180). -/
theorem dispatch_reaction (f : Frame) (s : State) : Reaction s (dispatch f s) := by
  have hcleared {k : RxKind} {r : Result} (h : Reaction (setRxKind k (clearOnDecode f s)) r) : Reaction s r :=
    h.of_contexts (clearOnDecode_ltx f s) (clearOnDecode_ntx f s)
  cases f with
  | i seq chained p => exact hcleared (dispatchI_reaction seq chained p _)
  | r seq kind err => exact hcleared (dispatchR_reaction seq kind err _)
  | s sub p atr w => exact hcleared (dispatchS_reaction sub p atr _)

/-- A reaction completes where the last S-frame sent has a state that sends it again (R239) and a chained fragment is
no longer than what remains (R152). -/
theorem Reaction.completes {s : State} {r : Result} (h : Reaction s r)
    (hreplay : s.ltx.ftype = .s → ∃ ps, stateOf s.ltx.s.subtype = some ps)
    (hfragment : s.ltx.i.chained = true → s.ntx.i.chained = true ∧ s.ntx.i.fragLen ≤ s.ntx.i.remaining) :
    Completes r := by
  cases h with
  | next t => exact completes_next t
  | @guarded a u hltx ha =>
    rw [← hltx] at hreplay ha
    have hretransmit : Completes (retransmit u) := retransmit_completes hreplay
    apply guarded_completes
    cases a with
    | nackOther => exact completes_next _
    | retransmit => exact hretransmit
    | replayS => rwa [retransmit_sframe (ha rfl)] at hretransmit
  | advance hntx hchained =>
    obtain ⟨hc, hl⟩ := hfragment hchained
    rw [← hntx] at hc hl
    exact advanceFragment_completes hc hl

/-! ## Where a `step` completes -/

/-- A context that agrees with a send state and holds an S-frame is sent by that state alone (R146, R163). -/
theorem stateOf_of_sendStateAgrees {ps : PState} {x : TxCtx} (hp : ps ≠ .idle) (h : sendStateAgrees ps x = true)
    (hf : x.ftype = .s) : stateOf x.s.subtype = some ps := by
  cases ps with
  | idle => exact absurd rfl hp
  | sendIframe | sendRAck | sendRNack | sendLockAcquire => simp [sendStateAgrees, hf] at h
  | sendSResync | sendSIntfReset | sendSIfsAdjust | sendSEndOfSession | sendSWtxResponse | sendSHardReset
  | sendSAtrRequest =>
    simp only [sendStateAgrees, hf, decide_true, Bool.true_and, decide_eq_true_eq] at h
    rw [h]
    rfl

/-- The frame of a send state exists where the operands of its encode operation have one (R100 to R103, R163). -/
theorem exists_frameFor {s : State} (hp : s.pstate ≠ .idle)
    (hi : s.pstate = .sendIframe → ∃ b, s.ntx.i.buf = some b ∧ 1 ≤ s.ntx.i.fragLen ∧
      s.ntx.i.offset + s.ntx.i.fragLen ≤ b.len ∧
      (s.ntx.i.fragLen ≤ 254 ∨ (s.variant = .extended ∧ s.ntx.i.fragLen ≤ 65535)))
    (hr : s.pstate = .sendRNack → s.ntx.r.err ≠ .none ∧ s.ntx.r.err ≠ .undefined)
    (hs : (s.pstate = .sendSIfsAdjust ∨ s.pstate = .sendSEndOfSession ∨ s.pstate = .sendSWtxResponse) →
      s.ntx.s.payload.length ≤ 254) : ∃ F, frameFor s = .frame F := by
  cases hps : s.pstate with
  | idle => exact absurd hps hp
  | sendIframe =>
    obtain ⟨b, hb, hpos, hend, hlayout⟩ := hi hps
    simp only [frameFor, hps]
    exact ⟨_, (encodeI_of_layout hb hpos hlayout).trans (if_pos hend)⟩
  | sendRNack =>
    obtain ⟨hnone, hundef⟩ := hr hps
    simp only [frameFor, hps]
    exact exists_encodeR_nack hnone hundef _ s
  | sendRAck | sendLockAcquire =>
    simp only [frameFor, hps]
    exact ⟨_, rfl⟩
  | sendSIfsAdjust | sendSEndOfSession | sendSWtxResponse =>
    have hpayload : s.ntx.s.payload.length ≤ 254 := hs (by simp [hps])
    simp only [frameFor, hps]
    exact exists_encodeS hpayload s
  | sendSResync | sendSIntfReset | sendSHardReset | sendSAtrRequest =>
    simp only [frameFor, hps]
    exact exists_encodeS (Nat.zero_le _) s

/-- A step whose frame exists completes, whatever the adapter answers (R160, R162, R169). -/
theorem seqStep_completes {s : State} {F : Bytes} (hp : s.pstate ≠ .idle)
    (hagrees : sendStateAgrees s.pstate s.ntx = true) (hF : frameFor s = .frame F)
    (hfragment : s.ntx.i.chained = true → s.ntx.i.fragLen ≤ s.ntx.i.remaining) : Completes (seqStep s) := by
  rw [seqStep, if_neg hp]
  rcases exchange_cases s with ⟨r, -, hstuck⟩ | ⟨F', -, -, ⟨-, heq⟩ | ⟨-, heq⟩⟩
  · simp [hagrees, hF] at hstuck
  · rw [heq]
    exact completes_next _
  · rcases receiveFrame_cases { chSend F' s with txf := F', ltx := s.ntx } with
      ⟨c, r, hlost, -, -⟩ | ⟨G, i, -, hi, hgot⟩
    · rw [heq, hlost]
      exact completes_next _
    · obtain ⟨f, hf⟩ := decodeInstr_isWire hi
      simp only [heq, hgot, dispatchWire, hf]
      exact (dispatch_reaction f _).completes (fun hs => ⟨_, stateOf_of_sendStateAgrees hp hagrees hs⟩)
        (fun hchained => ⟨hchained, hfragment hchained⟩)

/-- When the adapter takes the frame and answers with bytes that decode, a step is the dispatch of the frame after the
writes of the send and of the receive (R160). -/
theorem seqStep_eq_dispatch {s : State} {F G : Bytes} {ss : List SendAnswer} {rs : List RecvAnswer} {f : Frame}
    (hp : s.pstate ≠ .idle) (hagrees : sendStateAgrees s.pstate s.ntx = true) (hF : frameFor s = .frame F)
    (hss : s.sendScript = .ok :: ss) (hrs : s.recvScript = .bytes G :: rs)
    (hdec : decodeFrame s.cfg s.variant s.epsel G = .frame f) :
    seqStep s = dispatch f { s with
      txf := F, ltx := s.ntx, rxf := G, sendScript := ss, recvScript := rs
      trace := .received s.cfg.recvTimeout (.bytes G) :: .sent F .ok :: s.trace } := by
  obtain ⟨i, hi, hf⟩ := decodeFrame_frame_iff.mp hdec
  have hgot : exchange s = .got i { s with
      txf := F, ltx := s.ntx, rxf := G, sendScript := ss, recvScript := rs
      trace := .received s.cfg.recvTimeout (.bytes G) :: .sent F .ok :: s.trace } := by
    simp [exchange, receiveFrame, hagrees, hF, nextSend, nextRecv, chSend, chRecv, note, hss, hrs, hi]
  simp only [seqStep, if_neg hp, hgot, dispatchWire, hf]

/-- A new I-frame that is not chained ends the response: its payload is appended and the exchange is over
(R180, R182). -/
theorem dispatch_last_iframe (p : Bytes) (s : State) :
    dispatch (.i (!s.rxc.iSeq) false p) s = .next { s with
      rxc := { s.rxc with ftype := .i, iSeq := !s.rxc.iSeq, iChained := false }
      rlist := s.rlist ++ [p]
      sv := { s.sv with rnackRetryCounter := 0, wtxCounter := 0, recoveryCounter := 0 }
      pstate := .idle } := by
  have hnew : (!s.rxc.iSeq) = !(setRxKind .i (clearOnDecode (.i (!s.rxc.iSeq) false p) s)).rxc.iSeq := rfl
  rw [dispatch, dispatchI, if_pos hnew]
  rfl

/-- Settles O60: the frame of the state exists, so the exchange happens, and every reaction to its answer completes. -/
theorem stepCompletes : Obligations.StepCompletes := by
  intro s hp hagrees hi hr hs hfragment
  obtain ⟨op, hop⟩ := exists_sendingOp hp
  obtain ⟨F, hF⟩ := exists_frameFor hp hi hr hs
  obtain ⟨t, ht⟩ := seqStep_completes hp hagrees hF hfragment
  have hexec : exec op s = .next { s with txf := F, ret := .frameBytes F } := by
    rw [exec_sendingOp hop, hF]
    rfl
  refine ⟨⟨t, ht⟩, op, _, F, hop, hexec, rfl, ?_⟩
  intro G ss rs f hss hrs hdec r
  have hdispatch : exec .step s = dispatch f r := seqStep_eq_dispatch hp hagrees hF hss hrs hdec
  refine ⟨⟨t, ht, hdispatch.symm.trans ht⟩, ?_⟩
  rintro q p rfl rfl
  exact hdispatch.trans (dispatch_last_iframe p r)

end Machine
end Sys2Proof
end

section
/-! The result of `decode`, test by test and kind by kind (R121 to R128). -/

namespace Sys2Proof

/-! ## The tests before classification -/

theorem decodeInstr_of_length_lt {F : Bytes} (h : F.length < 4) (c : Cfg) (v : Variant) (ep : Endpoint) :
    decodeInstr c v ep F = .error .malformed := by
  unfold decodeInstr
  split
  next addr pcb len rest =>
    simp only [List.length_cons] at h
    exact if_pos (List.length_eq_zero_iff.mp (by omega))
  next => rfl

/-- A sequence of at least four bytes has the three fields before the payload and a byte after them (R64, R65). -/
theorem exists_fields {F : Bytes} (h : 4 ≤ F.length) :
    ∃ addr pcb len rest, F = addr :: pcb :: len :: rest ∧ rest ≠ [] := by
  match F, h with
  | addr :: pcb :: len :: x :: rest, _ => exact ⟨addr, pcb, len, x :: rest, rfl, List.cons_ne_nil _ _⟩

theorem decodeInstr_of_checkLrc_false {c : Cfg} {F : Bytes} (hlen : 4 ≤ F.length) (hlrc : checkLrc c F = false)
    (v : Variant) (ep : Endpoint) : decodeInstr c v ep F = .error .checksumMismatch := by
  obtain ⟨addr, pcb, len, rest, rfl, hrest⟩ := exists_fields hlen
  simp [decodeInstr, hrest, hlrc]

theorem decodeInstr_of_addr_ne {c : Cfg} {ep : Endpoint} {F : Bytes} (hlen : 4 ≤ F.length)
    (hlrc : checkLrc c F = true) (hcheck : c.rxAddrCheck = true) (haddr : F.head? ≠ some (c.addrRx ep))
    (v : Variant) : decodeInstr c v ep F = .error .malformed := by
  obtain ⟨addr, pcb, len, rest, rfl, hrest⟩ := exists_fields hlen
  have hne : addr ≠ c.addrRx ep := fun heq => haddr (congrArg some heq)
  simp [decodeInstr, hrest, hlrc, hcheck, hne]

/-- Settles O7: each of the first three tests answers before any later one is made. -/
theorem decodeTestsInOrder : Obligations.DecodeTestsInOrder := by
  intro s F r
  refine ⟨rfl, fun hshort => ?_, fun hlen hlrc => ?_, fun hlen hlrc hcheck haddr => ?_⟩
  · exact decodeFrame_error_iff.mpr (decodeInstr_of_length_lt hshort _ _ _)
  · exact decodeFrame_error_iff.mpr (decodeInstr_of_checkLrc_false hlen hlrc _ _)
  · exact decodeFrame_error_iff.mpr (decodeInstr_of_addr_ne hlen hlrc hcheck haddr _)

/-! ## I-frames -/

/-- `decode_i` on a one-byte length field (R124). -/
theorem decodeI_of_ne_marker {len : Byte} (h : len ≠ Config.lenExtMarker) (c : Cfg) (v : Variant) (pcb : Byte)
    (rest : Bytes) :
    decodeI c v pcb len rest =
      if rest.length = len.toNat + 1 then
        .ok (.iShort (bitOf pcb c.iSeqBit) (bitOf pcb c.iChainBit) (rest.take len.toNat))
      else .error .malformed := by
  unfold decodeI
  rw [if_neg h]

/-- The legacy variant does not honour the marker (R124). -/
theorem decodeI_legacy_marker (c : Cfg) (pcb : Byte) (rest : Bytes) :
    decodeI c .legacy pcb Config.lenExtMarker rest = .error .malformed := rfl

/-- `decode_i` on an extended length field (R124). -/
theorem decodeI_extended_marker (c : Cfg) (pcb hi lo : Byte) (body : Bytes) :
    decodeI c .extended pcb Config.lenExtMarker (hi :: lo :: body) =
      if body.length = natOfBe16 hi lo + 1 then
        .ok (.iExt (bitOf pcb c.iSeqBit) (bitOf pcb c.iChainBit) (body.take (natOfBe16 hi lo)))
      else .error .malformed := rfl

/-- Fewer than six bytes hold no extended length field and LRC byte (R124). -/
theorem decodeI_extended_of_length_lt {rest : Bytes} (h : rest.length < 3) (c : Cfg) (pcb : Byte) :
    decodeI c .extended pcb Config.lenExtMarker rest = .error .malformed := by
  match rest, h with
  | [], _ => rfl
  | [_], _ => rfl
  | [hi, lo], _ => rw [decodeI_extended_marker, if_neg (by simp)]

/-- Settles O8: the answer is that of `decode_i`, clause by clause. -/
theorem decodeIframeFields : Obligations.DecodeIframeFields := by
  intro c v ep addr pcb len rest hrest hlrc haddr h7 r
  have hread : decodeInstr c v ep (addr :: pcb :: len :: rest) = decodeI c v pcb len rest :=
    decodeInstr_of_iframe hrest hlrc haddr h7
  refine ⟨fun hne hlen => ?_, fun hne hlen => ?_, ?_, ?_, ?_⟩
  · exact decodeFrame_ok (hread.trans ((decodeI_of_ne_marker hne c v pcb rest).trans (if_pos hlen))) rfl
  · exact decodeFrame_error_iff.mpr (hread.trans ((decodeI_of_ne_marker hne c v pcb rest).trans (if_neg hlen)))
  · rintro rfl rfl
    exact decodeFrame_error_iff.mpr (hread.trans (decodeI_legacy_marker c pcb rest))
  · rintro rfl rfl hshort
    exact decodeFrame_error_iff.mpr (hread.trans (decodeI_extended_of_length_lt hshort c pcb))
  · rintro rfl rfl hi lo body rfl
    have hext := hread.trans (decodeI_extended_marker c pcb hi lo body)
    refine ⟨fun hlen => ?_, fun hlen => ?_⟩
    · exact decodeFrame_ok (hext.trans (if_pos hlen)) rfl
    · exact decodeFrame_error_iff.mpr (hext.trans (if_neg hlen))

/-! ## R-frames -/

/-- A reserved bit, whichever of the three, gives the undefined class (R126). -/
theorem rInstr_toFrame_of_reserved {pcb : Byte} (h : (bitOf pcb 5 || bitOf pcb 3 || bitOf pcb 2) = true) (c : Cfg) :
    (rInstr c pcb).toFrame = some (.r (bitOf pcb c.rSeqBit) .nack .undefined) := by
  by_cases h5 : bitOf pcb 5 = true
  · simp [rInstr, h5, Instr.toFrame]
  by_cases h3 : bitOf pcb 3 = true
  · simp [rInstr, h5, h3, Instr.toFrame]
  have h2 : bitOf pcb 2 = true := by simpa [h5, h3] using h
  simp [rInstr, h5, h3, h2, Instr.toFrame]

/-- Without a reserved bit, bits 1:0 select the class (R126). -/
theorem rInstr_of_not_reserved {pcb : Byte} (h : (bitOf pcb 5 || bitOf pcb 3 || bitOf pcb 2) = false) (c : Cfg) :
    rInstr c pcb =
      if pcb.extractLsb' 0 2 = c.rErrNone then .rAck (bitOf pcb c.rSeqBit)
      else if pcb.extractLsb' 0 2 = c.rErrParity then .rNackParity (bitOf pcb c.rSeqBit)
      else if pcb.extractLsb' 0 2 = c.rErrOther then .rNackOther (bitOf pcb c.rSeqBit)
      else .rNackMissing (bitOf pcb c.rSeqBit) := by
  obtain ⟨⟨h5, h3⟩, h2⟩ : (bitOf pcb 5 = false ∧ bitOf pcb 3 = false) ∧ bitOf pcb 2 = false := by
    simpa only [Bool.or_eq_false_iff] using h
  simp [rInstr, h5, h3, h2]

/-- Without a reserved bit, and where the four codes differ, bits 1:0 name the class (R68, R126). -/
theorem rInstr_toFrame_of_rErrCode {c : Cfg} {pcb : Byte} {e : ErrClass}
    (hcodes : [c.rErrNone, c.rErrParity, c.rErrOther, c.rErrMissing].Nodup)
    (hres : (bitOf pcb 5 || bitOf pcb 3 || bitOf pcb 2) = false) (he : c.rErrCode e = some (pcb.extractLsb' 0 2)) :
    (rInstr c pcb).toFrame = some (.r (bitOf pcb c.rSeqBit) (if e = .none then .ack else .nack) e) := by
  simp only [List.nodup_cons, List.mem_cons, not_or] at hcodes
  obtain ⟨⟨hnone_parity, hnone_other, hnone_missing, -⟩, ⟨hparity_other, hparity_missing, -⟩,
    ⟨hother_missing, -⟩, -⟩ := hcodes
  rw [rInstr_of_not_reserved hres]
  generalize pcb.extractLsb' 0 2 = code at he ⊢
  cases e with
  | none =>
    cases he
    rw [if_pos rfl]
    rfl
  | parity =>
    cases he
    rw [if_neg (Ne.symm hnone_parity), if_pos rfl]
    rfl
  | other =>
    cases he
    rw [if_neg (Ne.symm hnone_other), if_neg (Ne.symm hparity_other), if_pos rfl]
    rfl
  | missing =>
    cases he
    rw [if_neg (Ne.symm hnone_missing), if_neg (Ne.symm hparity_missing), if_neg (Ne.symm hother_missing)]
    rfl
  | undefined => cases he

/-- Settles O9: `decode_r` tests the length, and the PCB alone gives the record. -/
theorem decodeRframeFields : Obligations.DecodeRframeFields := by
  intro c v ep addr pcb len rest hcodes hrest hlrc haddr h7 h6 r n reserved
  have hread : decodeInstr c v ep (addr :: pcb :: len :: rest) = decodeR c pcb len rest :=
    decodeInstr_of_rframe hrest hlrc haddr h7 h6
  refine ⟨fun hbad => ?_, fun hzero hone hres => ?_, fun hzero hone hres e code he hcode => ?_⟩
  · exact decodeFrame_error_iff.mpr (hread.trans (if_neg (not_and_or.mpr hbad)))
  · exact decodeFrame_ok (hread.trans (if_pos ⟨hzero, hone⟩)) (rInstr_toFrame_of_reserved hres c)
  · subst hcode
    exact decodeFrame_ok (hread.trans (if_pos ⟨hzero, hone⟩)) (rInstr_toFrame_of_rErrCode hcodes hres he)

/-! ## S-frames -/

theorem subtypeOf_eq_none_iff {c : Cfg} {code : BitVec 6} :
    c.subtypeOf code = none ↔ ∀ n : SName, c.sCode6 n ≠ code := by
  simp [Cfg.subtypeOf, List.find?_eq_none, SName.mem_all]

theorem decodeS_of_length_bad {len : Byte} {rest : Bytes}
    (h : len = Config.lenExtMarker ∨ rest.length ≠ len.toNat + 1) (c : Cfg) (pcb : Byte) :
    decodeS c pcb len rest = .error .malformed := by
  unfold decodeS
  by_cases hmarker : len = Config.lenExtMarker
  · rw [if_pos hmarker]
  · rw [if_neg hmarker, if_neg (h.resolve_left hmarker)]

theorem decodeS_of_subtypeOf_some {c : Cfg} {pcb len : Byte} {rest : Bytes} {n : SName}
    (hne : len ≠ Config.lenExtMarker) (hlen : rest.length = len.toNat + 1)
    (hn : c.subtypeOf (pcb.extractLsb' 0 6) = some n) :
    decodeS c pcb len rest = .ok (sInstr n (rest.take len.toNat)) := by
  rw [decodeS, if_neg hne, if_pos hlen, hn]

theorem decodeS_of_subtypeOf_none {c : Cfg} {pcb len : Byte} {rest : Bytes}
    (hne : len ≠ Config.lenExtMarker) (hlen : rest.length = len.toNat + 1)
    (hn : c.subtypeOf (pcb.extractLsb' 0 6) = none) :
    decodeS c pcb len rest = .ok (.sUnknown (pcb.extractLsb' 0 6) (rest.take len.toNat)) := by
  rw [decodeS, if_neg hne, if_pos hlen, hn]

/-- Settles O10: a named subtype is found by its code, which no other has, and its record holds the ATR fields. -/
theorem decodeSframeFields : Obligations.DecodeSframeFields := by
  intro c v ep addr pcb len rest hcodes hrest hlrc haddr h7 h6 r payload
  have hread : decodeInstr c v ep (addr :: pcb :: len :: rest) = decodeS c pcb len rest :=
    decodeInstr_of_sframe hrest hlrc haddr h7 h6
  refine ⟨fun hbad => ?_, fun hne hlen => ⟨fun n hn => ?_, fun hunknown => ?_⟩⟩
  · exact decodeFrame_error_iff.mpr (hread.trans (decodeS_of_length_bad hbad c pcb))
  · have hname : c.subtypeOf (pcb.extractLsb' 0 6) = some n := hn ▸ subtypeOf_sCode6 hcodes n
    exact decodeFrame_ok (hread.trans (decodeS_of_subtypeOf_some hne hlen hname)) (isWire_sInstr n payload)
  · have hnone := subtypeOf_eq_none_iff.mpr hunknown
    exact decodeFrame_ok (hread.trans (decodeS_of_subtypeOf_none hne hlen hnone)) rfl

end Sys2Proof
end

section
/-! The rows that prepare a context (R140 to R147), and the fragments of a command (R150). -/

namespace Sys2Proof
namespace Machine

/-! ## The rows `seed_iframe`, `next_iframe_ctx`, `seed_lock` and `seed_rframe` -/

theorem seedIframeValid_iff {buf : Option BufRef} {n : Nat} :
    seedIframeValid buf n = true ↔ buf ≠ none ∧ 1 ≤ n ∧ n < Config.lenLimit := by
  simp [seedIframeValid, Option.isSome_iff_ne_none, and_assoc]

theorem exec_seedIframe_of_valid {buf : Option BufRef} {n : Nat} (hbuf : buf ≠ none) (hpos : 1 ≤ n)
    (hlim : n < Config.lenLimit) (s : State) : exec (.seedIframe buf n) s = .next (loadIframe buf n s) :=
  if_pos (seedIframeValid_iff.mpr ⟨hbuf, hpos, hlim⟩)

theorem exec_seedIframe_of_invalid {buf : Option BufRef} {n : Nat} (h : buf = none ∨ n = 0 ∨ Config.lenLimit ≤ n)
    (s : State) : exec (.seedIframe buf n) s = .next (raise .invalidParameter s) := by
  refine if_neg fun hvalid => ?_
  obtain ⟨hbuf, hpos, hlim⟩ := seedIframeValid_iff.mp hvalid
  rcases h with hnone | hzero | hlong
  · exact hbuf hnone
  · omega
  · omega

/-- Settles O11: the row's two outcomes, by whether it takes its operands. -/
theorem seedIframeFirstFragment : Obligations.SeedIframeFirstFragment := by
  intro s buf n
  constructor
  · intro hbad
    exact exec_seedIframe_of_invalid hbad s
  · intro hbuf hpos hlim
    exact exec_seedIframe_of_valid hbuf hpos hlim s

/-- Settles O12: neither refusal of `next_iframe_ctx` applies under its precondition. -/
theorem nextIframeCtxAdvances : Obligations.NextIframeCtxAdvances := by
  intro s hchained hlen
  exact nextIframe_next hchained hlen

/-- Settles O13: the row has one outcome, the writes of `loadLock`. -/
theorem seedLockContext : Obligations.SeedLockContext := fun _ => rfl

/-- Settles O15: the row has one outcome, and only its state depends on the kind. -/
theorem seedRframeContext : Obligations.SeedRframeContext := by
  intro s kind err
  cases kind with
  | ack => rfl
  | nack => rfl

/-! ## The fragments of a command -/

/-- A fragment of the command `b`: it meets R150, and it is as long as the bound where more follow. -/
structure FragmentOf (b : BufRef) (x : IRec) : Prop where
  tracks : tracks x
  buf : x.buf = some b
  full : x.chained = true → x.fragLen = x.maxLen

namespace FragmentOf

variable {b : BufRef} {x : IRec}

theorem of_loadIframe {s : State} (hpos : 1 ≤ b.len) (hlim : b.len < Config.lenLimit) (hifs : 1 ≤ s.sv.ifsCurrent)
    (hext : s.sv.ifsCurrent ≤ Config.extLenMax) : FragmentOf b (loadIframe (some b) b.len s).ntx.i where
  tracks := tracks_firstFragment _ hpos hlim hifs hext
  buf := rfl
  full := fun hc => if_pos (of_decide_eq_true hc)

theorem of_nextFragment (h : FragmentOf b x) (hc : x.chained = true) : FragmentOf b (nextFragment x) where
  tracks := tracks_nextFragment h.tracks hc
  buf := h.buf
  full := fun hc' => if_pos (of_decide_eq_true hc')

theorem fragLen_pos (h : FragmentOf b x) : 1 ≤ x.fragLen := by
  obtain ⟨-, -, hpos, -⟩ := h.tracks b h.buf
  exact hpos

theorem fragLen_le_maxLen (h : FragmentOf b x) : x.fragLen ≤ x.maxLen := by
  obtain ⟨-, -, -, -, hmax, -⟩ := h.tracks b h.buf
  exact hmax

theorem fragLen_le_remaining (h : FragmentOf b x) : x.fragLen ≤ x.remaining := by
  obtain ⟨-, -, -, hrem, -⟩ := h.tracks b h.buf
  exact hrem

/-- The last fragment carries all that remains. -/
theorem fragLen_of_last (h : FragmentOf b x) (hc : x.chained = false) : x.fragLen = x.remaining := by
  obtain ⟨-, -, -, hrem, -, -, -, hfrag⟩ := h.tracks b h.buf
  have hall : ¬ x.fragLen < x.remaining := fun hlt => absurd (hfrag.mpr hlt) (by simp [hc])
  omega

theorem fragLen_add_remaining (h : FragmentOf b x) : x.fragLen + (nextFragment x).remaining = x.remaining :=
  Nat.add_sub_of_le h.fragLen_le_remaining

end FragmentOf

/-- The list of the fragments of the command `b` from `x` on (R142): `next_iframe_ctx` after every chained one. -/
inductive FragmentChain (b : BufRef) : IRec → List IRec → Prop
  | last {x : IRec} (frag : FragmentOf b x) (hc : x.chained = false) : FragmentChain b x [x]
  | more {x : IRec} {fs : List IRec} (frag : FragmentOf b x) (hc : x.chained = true)
      (rest : FragmentChain b (nextFragment x) fs) : FragmentChain b x (x :: fs)

/-- Each fragment carries a byte, so a list as long as the bytes that remain holds every fragment. -/
theorem fragments_chain {b : BufRef} {n : Nat} {x : IRec} (h : FragmentOf b x) (hn : x.remaining ≤ n) :
    FragmentChain b x (fragments n x) := by
  induction n generalizing x with
  | zero =>
    have := h.fragLen_pos
    have := h.fragLen_le_remaining
    omega
  | succ n ih =>
    unfold fragments
    split
    · rename_i hc
      have hpos := h.fragLen_pos
      have hsplit := h.fragLen_add_remaining
      exact .more h hc (ih (h.of_nextFragment hc) (by omega))
    · rename_i hc
      exact .last h (Bool.eq_false_of_not_eq_true hc)

namespace FragmentChain

variable {b : BufRef} {x : IRec} {fs : List IRec}

theorem ne_nil (h : FragmentChain b x fs) : fs ≠ [] := by
  cases h <;> exact List.cons_ne_nil _ _

theorem all_fragmentOf (h : FragmentChain b x fs) : ∀ y ∈ fs, FragmentOf b y := by
  induction h with
  | last frag => exact List.forall_mem_singleton.mpr frag
  | more frag _ _ ih => exact List.forall_mem_cons.mpr ⟨frag, ih⟩

/-- R150: the fragments carry the bytes from the offset on, in order. -/
theorem flatten_bytes (h : FragmentChain b x fs) (m : Memory) :
    (fs.map (fragmentBytes m b)).flatten = Memory.slice m (b.base + x.offset) x.remaining := by
  induction h with
  | last frag hc =>
    simp only [List.map_cons, List.map_nil, List.flatten_cons, List.flatten_nil, List.append_nil, fragmentBytes,
      frag.fragLen_of_last hc]
  | @more x fs frag hc _ ih =>
    calc ((x :: fs).map (fragmentBytes m b)).flatten
      _ = Memory.slice m (b.base + x.offset) x.fragLen ++
          Memory.slice m (b.base + (x.offset + x.fragLen)) (nextFragment x).remaining := congrArg (_ ++ ·) ih
      _ = Memory.slice m (b.base + x.offset) (x.fragLen + (nextFragment x).remaining) := by
        rw [← Nat.add_assoc, Memory.slice_append]
      _ = Memory.slice m (b.base + x.offset) x.remaining := by rw [frag.fragLen_add_remaining]

theorem sum_fragLen (h : FragmentChain b x fs) : (fs.map fun y => y.fragLen).sum = x.remaining := by
  induction h with
  | last frag hc => simpa using frag.fragLen_of_last hc
  | more frag _ _ ih => rw [List.map_cons, List.sum_cons, ih, frag.fragLen_add_remaining]

theorem full_of_mem_dropLast (h : FragmentChain b x fs) :
    ∀ y ∈ fs.dropLast, y.fragLen = x.maxLen ∧ y.chained = true := by
  induction h with
  | last => exact List.forall_mem_nil _
  | more frag hc rest ih =>
    rw [List.dropLast_cons_of_ne_nil rest.ne_nil]
    exact List.forall_mem_cons.mpr ⟨⟨frag.full hc, hc⟩, ih⟩

theorem getLast?_unchained (h : FragmentChain b x fs) : ∀ y ∈ fs.getLast?, y.chained = false := by
  induction h with
  | last _ hc => simpa using hc
  | more _ _ rest ih => rwa [List.getLast?_cons_of_ne_nil rest.ne_nil]

/-- The fragments are as many as the bound needs: every one but the last takes `maxLen` bytes away. -/
theorem length_eq_ceilDiv (h : FragmentChain b x fs) : fs.length = (x.remaining + x.maxLen - 1) / x.maxLen := by
  induction h with
  | last frag hc =>
    have hpos := frag.fragLen_pos
    have hmax := frag.fragLen_le_maxLen
    rw [frag.fragLen_of_last hc] at hpos hmax
    rw [List.length_singleton, Nat.div_eq_of_lt_le] <;> omega
  | @more x fs frag hc rest ih =>
    have hpos := frag.fragLen_pos
    have hsplit := frag.fragLen_add_remaining
    rw [frag.full hc] at hpos hsplit
    calc (x :: fs).length
      _ = ((nextFragment x).remaining + x.maxLen - 1) / x.maxLen + 1 := congrArg (· + 1) ih
      _ = ((nextFragment x).remaining + x.maxLen - 1 + x.maxLen) / x.maxLen := (Nat.add_div_right _ hpos).symm
      _ = (x.remaining + x.maxLen - 1) / x.maxLen := by
        congr 1
        omega

/-- The bit is flipped at every fragment. -/
theorem seq_alternates (h : FragmentChain b x fs) :
    ∀ k (hk : k < fs.length), (fs[k]).seq = if k % 2 = 0 then x.seq else !x.seq := by
  induction h with
  | @last x frag hc =>
    intro k hk
    obtain rfl : k = 0 := Nat.lt_one_iff.mp hk
    rfl
  | @more x fs frag hc rest ih =>
    intro k hk
    cases k with
    | zero => rfl
    | succ k =>
      have hflip : (fs[k]'(Nat.lt_of_succ_lt_succ hk)).seq = if k % 2 = 0 then !x.seq else !!x.seq := ih k _
      rw [List.getElem_cons_succ, hflip, Bool.not_not]
      rcases Nat.mod_two_eq_zero_or_one k with heven | hodd
      · rw [if_pos heven, if_neg (by omega)]
      · rw [if_neg (by omega), if_pos (by omega)]

end FragmentChain

/-- Settles O16: each clause is a fact about every `FragmentChain`, read at the first fragment of the command. -/
theorem fragmentsCarryTheCommand : Obligations.FragmentsCarryTheCommand := by
  intro s b hpos hlim hifs hext
  refine ⟨loadIframe (some b) b.len s, exec_seedIframe_of_valid (Option.some_ne_none b) hpos hlim s, ?_⟩
  have hchain : FragmentChain b (loadIframe (some b) b.len s).ntx.i
      (fragments b.len (loadIframe (some b) b.len s).ntx.i) :=
    fragments_chain (.of_loadIframe hpos hlim hifs hext) (Nat.le_refl b.len)
  refine ⟨fun y hy => (hchain.all_fragmentOf y hy).tracks, hchain.flatten_bytes s.mem, hchain.sum_fragLen,
    hchain.full_of_mem_dropLast, hchain.getLast?_unchained, hchain.length_eq_ceilDiv, fun k hk => ?_⟩
  have hseq := hchain.seq_alternates k hk
  rwa [show (loadIframe (some b) b.len s).ntx.i.seq = !s.ntx.i.seq from rfl, Bool.not_not] at hseq

end Machine
end Sys2Proof
end

section
/-! One exchange of the sequencer with an adapter whose answers are known, and the loop of `run`. -/

namespace Sys2Proof
namespace Machine

/-! ## One exchange with an adapter whose answers are known -/

/-- The writes of a send that succeeds (R13, R160). -/
def afterSend (F : Bytes) (ss : List SendAnswer) (s : State) : State :=
  { s with txf := F, ltx := s.ntx, sendScript := ss, trace := .sent F .ok :: s.trace }

/-- The writes of a receive that the adapter answers with `a`, the buffer `RXF` apart (R46, R160). -/
def afterReceive (a : RecvAnswer) (rs : List RecvAnswer) (s : State) : State :=
  { s with recvScript := rs, trace := .received s.cfg.recvTimeout a :: s.trace }

/-- What an answer of `ChRecv` makes of an exchange (R160). -/
def onAnswer (a : RecvAnswer) (s : State) : Exchange :=
  match a with
  | .timeout => .lost (setCause .timeout s)
  | .ioError => .lost (setCause .ioFailure s)
  | .bytes G =>
    match decodeInstr s.cfg s.variant s.epsel G with
    | .error e => .lost (setCause (causeOf e) { s with rxf := G })
    | .ok i => .got i { s with rxf := G }

/-- What a `step` does with its exchange (R160). -/
def react : Exchange → Result
  | .stuck r => r
  | .failed t => .next t
  | .lost t => .next (retryPolicy t)
  | .got i t => dispatchWire i t

theorem seqStep_eq_react {s : State} (hp : s.pstate ≠ .idle) : seqStep s = react (exchange s) := by
  rw [seqStep, if_neg hp]
  cases exchange s <;> rfl

theorem receiveFrame_eq_onAnswer (s : State) : receiveFrame s = onAnswer (nextRecv s) (chRecv s) := by
  unfold receiveFrame
  cases nextRecv s with
  | timeout | ioError | bytes G => rfl

theorem onAnswer_of_error {s : State} {G : Bytes} {e : DecodeError}
    (h : decodeInstr s.cfg s.variant s.epsel G = .error e) :
    onAnswer (.bytes G) s = .lost (setCause (causeOf e) { s with rxf := G }) := by
  simp only [onAnswer, h]

theorem onAnswer_of_ok {s : State} {G : Bytes} {i : Instr} (h : decodeInstr s.cfg s.variant s.epsel G = .ok i) :
    onAnswer (.bytes G) s = .got i { s with rxf := G } := by
  simp only [onAnswer, h]

theorem chSend_of_script {s : State} {a : SendAnswer} {ss : List SendAnswer} (h : s.sendScript = a :: ss) (F : Bytes) :
    chSend F s = { s with sendScript := ss, trace := .sent F a :: s.trace } := by
  simp [chSend, note, nextSend, h]

theorem chRecv_of_script {s : State} {a : RecvAnswer} {rs : List RecvAnswer} (h : s.recvScript = a :: rs) :
    chRecv s = afterReceive a rs s := by
  simp [chRecv, note, nextRecv, h, afterReceive]

/-- A send that fails ends the exchange, and `LTX` keeps the last frame that went out (R162). -/
theorem seqStep_of_send_error {s : State} {F : Bytes} {ss : List SendAnswer} (hp : s.pstate ≠ .idle)
    (hagrees : sendStateAgrees s.pstate s.ntx = true) (hF : frameFor s = .frame F)
    (hss : s.sendScript = .ioError :: ss) :
    seqStep s = .next { s with
      txf := F, sendScript := ss, trace := .sent F .ioError :: s.trace
      cause := .ioFailure, status := .ioFailure, pstate := .idle } := by
  have hfailed : exchange s = .failed (sendFailed { chSend F s with txf := F }) := by
    simp [exchange, hagrees, hF, nextSend, hss]
  rw [seqStep_eq_react hp, hfailed, chSend_of_script hss]
  rfl

/-- A step whose frame the adapter takes reacts to the one answer of the receive (R160). -/
theorem seqStep_of_answer {s : State} {F : Bytes} {ss : List SendAnswer} {a : RecvAnswer} {rs : List RecvAnswer}
    (hp : s.pstate ≠ .idle) (hagrees : sendStateAgrees s.pstate s.ntx = true) (hF : frameFor s = .frame F)
    (hss : s.sendScript = .ok :: ss) (hrs : s.recvScript = a :: rs) :
    seqStep s = react (onAnswer a (afterReceive a rs (afterSend F ss s))) := by
  have hsent : exchange s = receiveFrame (afterSend F ss s) := by
    simp [exchange, hagrees, hF, nextSend, hss, chSend_of_script hss, afterSend]
  have hnext : (afterSend F ss s).recvScript = a :: rs := hrs
  have hanswer : nextRecv (afterSend F ss s) = a := by simp [nextRecv, hnext]
  rw [seqStep_eq_react hp, hsent, receiveFrame_eq_onAnswer, hanswer, chRecv_of_script hnext]

/-- Settles O43: the send and then each answer of the receive, by `seqStep_of_answer`. -/
theorem stepMakesOneExchange : Obligations.StepMakesOneExchange := by
  intro s
  refine ⟨fun hidle => if_pos hidle, fun op u F ss hp hagrees hop hu hret => ?_⟩
  have hF : frameFor s = .frame F := frameFor_of_sendingOp hop hu hret
  refine ⟨seqStep_of_send_error hp hagrees hF, fun a rs hss hrs => ?_⟩
  have hstep : exec .step s = react (onAnswer a (afterReceive a rs (afterSend F ss s))) :=
    seqStep_of_answer hp hagrees hF hss hrs
  refine ⟨?_, ?_, ?_, ?_⟩
  · rintro rfl
    exact hstep
  · rintro rfl
    exact hstep
  · rintro G rfl e hdec
    have hdec := decodeFrame_error_iff.mp hdec
    rw [hstep, onAnswer_of_error (s := afterReceive (.bytes G) rs (afterSend F ss s)) hdec]
    cases e <;> rfl
  · rintro G f rfl hdec
    exact seqStep_eq_dispatch hp hagrees hF hss hrs hdec

/-! ## The loop of `run` -/

theorem contOf_running_or_bare {c : Ctl} {k : Cont} (h : c = .running k ∨ c = .atRest ∧ k = .bare) : contOf c = k := by
  rcases h with rfl | ⟨rfl, rfl⟩ <;> rfl

/-- Settles O45: the beginning, one transition in a send state, and the end of a bare `run`. -/
theorem runDrivesToIdle : Obligations.RunDrivesToIdle := by
  intro s
  refine ⟨fun k hk => ?_, fun k hk hquiet hp => step_running hk hquiet hp,
    fun hk hquiet hidle => step_finish hk hquiet hidle⟩
  show Host.Outcome.next (beginRun (contOf s.ctl) s) = _
  rw [contOf_running_or_bare hk]
  rfl

/-- Inside a `run`, a transition that no host event precedes is one `step`. -/
theorem step_running_quiet {s : State} {k : Cont} {rest : List HostEvent}
    (hquiet : s.hostIn = [] ∧ rest = [] ∨ s.hostIn = .quiet :: rest) (hk : s.ctl = .running k) (hp : s.pstate ≠ .idle) :
    step s = seqStep { s with hostIn := rest } := by
  rcases hquiet with ⟨hnil, rfl⟩ | hcons
  · rw [step_running hk hnil hp, ← hnil]
  · rw [step_quiet hcons]
    exact carryOut_advanceRun_sending hk hp

/-- Settles O46: the answer decodes, so the step is the dispatch of the wire frame, which is its `exec`. -/
theorem stepRunsDecodedInstruction : Obligations.StepRunsDecodedInstruction := by
  intro s k op u F G ss rs i rest hquiet hk hp hagrees hop hu hret hss hrs hdec
  have hF : frameFor s = .frame F := frameFor_of_sendingOp hop hu hret
  obtain ⟨f, hf⟩ := decodeInstr_isWire hdec
  rw [step_running_quiet hquiet hk hp, exec_wire hf]
  exact seqStep_eq_dispatch hp hagrees hF hss hrs (decodeFrame_ok hdec hf)

end Machine
end Sys2Proof
end

section
/-! What no received frame and no operation of the sequencer writes: the mode, the endpoint, the snapshots and the
read-only session registers. -/

namespace Sys2Proof
namespace Machine

/-! ## The mode -/

/-- A transition keeps the mode, the endpoint and the snapshots, the configuration, the operation in progress and the
events of the host (R170). -/
structure ModeKept (s t : State) : Prop where
  cfg : t.cfg = s.cfg
  top : t.top = s.top
  epsel : t.epsel = s.epsel
  epEse : t.epEse = s.epEse
  epEuicc : t.epEuicc = s.epEuicc
  hostIn : t.hostIn = s.hostIn
  ctl : t.ctl = s.ctl

namespace ModeKept

theorem refl (s : State) : ModeKept s s := ⟨rfl, rfl, rfl, rfl, rfl, rfl, rfl⟩

theorem of_surroundings {s t : State} (h : surroundings t = surroundings s) : ModeKept s t where
  cfg := (congrArg State.cfg h :)
  top := (congrArg State.top h :)
  epsel := (congrArg State.epsel h :)
  epEse := (congrArg State.epEse h :)
  epEuicc := (congrArg State.epEuicc h :)
  hostIn := (congrArg State.hostIn h :)
  ctl := (congrArg State.ctl h :)

theorem of_protocolOnly {s t : State} (h : ProtocolOnly s t) : ModeKept s t := by
  rcases h with h | ⟨d, h⟩
  · exact of_surroundings h
  · exact { of_surroundings h with }

theorem of_seqStep {s t : State} (h : seqStep s = .next t) : ModeKept s t := by
  by_cases hp : s.pstate = .idle
  · rw [seqStep, if_pos hp] at h
    cases h
    exact refl s
  · obtain ⟨F, -, ⟨-, rfl⟩ | ⟨-, G, hpost⟩⟩ := seqStep_cases hp h
    · exact { refl s with }
    · exact { of_protocolOnly hpost with }

end ModeKept

/-! ## The read-only session registers -/

/-- The read-only session registers hold the configuration's values (R20, R21). -/
def HoldsLimits (s : State) : Prop :=
  s.sv.ifsDefault = s.cfg.ifsDefault ∧ s.sv.wtxCounterLimit = s.cfg.wtxCounterLimit ∧
    s.sv.rnackRetryLimit = s.cfg.rnackRetryLimit

theorem holdsLimits_of_svOk {s : State} (h : svOk s.cfg s.sv) : HoldsLimits s := by
  obtain ⟨-, -, -, -, hrnack, hwtx, hifs⟩ := h
  exact ⟨hifs, hwtx, hrnack⟩

namespace HoldsLimits

theorem withCause {s : State} (h : HoldsLimits s) (c : Cause) : HoldsLimits (setCause c s) := h

theorem withNote {s : State} (h : HoldsLimits s) (e : ChEvent) : HoldsLimits (note e s) := h

theorem withRecovery {s : State} (h : HoldsLimits s) (n : Nat) : HoldsLimits (setRecovery n s) := h

theorem withRxc {s : State} (h : HoldsLimits s) (x : RxCtx) : HoldsLimits { s with rxc := x } := h

theorem withVariant {s : State} (h : HoldsLimits s) (v : Variant) : HoldsLimits { s with variant := v } := h

theorem resetParams (s : State) : HoldsLimits (resetParams s) := ⟨rfl, rfl, rfl⟩

theorem clearOnDecode {s : State} (h : HoldsLimits s) (f : Frame) : HoldsLimits (clearOnDecode f s) := by
  unfold Machine.clearOnDecode
  split <;> exact h

theorem retryPolicy {s : State} (h : HoldsLimits s) : HoldsLimits (retryPolicy s) := by
  rcases retryPolicy_cases s with ⟨-, heq⟩ | ⟨-, heq⟩ <;> rw [heq] <;> exact h

/-- The give-up path writes the registers, with the values they hold (R242, R271). -/
theorem recoveryProcedure {s : State} (h : HoldsLimits s) : HoldsLimits (recoveryProcedure s) := by
  rcases recoveryProcedure_cases s with ⟨-, heq⟩ | ⟨-, heq⟩ <;> rw [heq]
  · exact h
  · exact resetParams s

theorem guardedAction {a : GuardedAction} {s t : State} (h : HoldsLimits s) (ht : guardedAction a s = .next t) :
    HoldsLimits t := by
  have hcfg : t.cfg = s.cfg := by
    rcases guardedAction_cases ht with rfl | ⟨-, hr⟩ | ⟨-, hr⟩
    · rfl
    · exact (ModeKept.of_surroundings (surroundings_retransmit hr)).cfg
    · exact (ModeKept.of_surroundings (surroundings_replayS hr)).cfg
  rw [HoldsLimits, guardedAction_sv ht, hcfg]
  exact h

theorem guarded {a : GuardedAction} {s t : State} (h : HoldsLimits s) (ht : guarded a s = .next t) :
    HoldsLimits t := by
  rcases guarded_cases ht with ⟨-, u, hu, rfl⟩ | ⟨-, rfl⟩
  · exact (h.guardedAction hu).withRecovery _
  · exact h.recoveryProcedure

theorem acceptI {s : State} (h : HoldsLimits s) (seq chained : Bit) (p : Bytes) :
    HoldsLimits (acceptI seq chained p s) := by
  cases chained <;> exact h

theorem dispatchI {seq chained : Bit} {p : Bytes} {s t : State} (h : HoldsLimits s)
    (ht : dispatchI seq chained p s = .next t) : HoldsLimits t := by
  unfold Machine.dispatchI at ht
  split at ht
  · cases ht
    exact h.acceptI seq chained p
  · exact ((h.withCause _).withNote _).guarded ht

theorem nextIframe {s t : State} (h : HoldsLimits s) (ht : nextIframe s = .next t) : HoldsLimits t := by
  obtain ⟨-, -, rfl⟩ := nextIframe_cases ht
  exact h

theorem advanceFragment {s t : State} (h : HoldsLimits s) (ht : advanceFragment s = .next t) : HoldsLimits t := by
  unfold Machine.advanceFragment at ht
  split at ht
  · rename_i u hu
    cases ht
    have hnext : HoldsLimits u := (h.withRecovery 0).nextIframe hu
    exact hnext
  · cases ht
  · cases ht

theorem dispatchR {seq : Bit} {kind : AckKind} {err : ErrClass} {s t : State} (h : HoldsLimits s)
    (ht : dispatchR seq kind err s = .next t) : HoldsLimits t := by
  unfold Machine.dispatchR at ht
  dsimp only at ht
  split at ht
  · exact (h.withRxc _).advanceFragment ht
  · exact ((h.withRxc _).withCause _).guarded ht

theorem wtxRequest {s : State} (h : HoldsLimits s) : HoldsLimits (wtxRequest s) := by
  rcases wtxRequest_cases s with ⟨-, heq⟩ | ⟨-, heq⟩ <;> rw [heq] <;> exact h

/-- An IFS response writes `SV.ifs_current`, never `SV.ifs_default` (R190, R213). -/
theorem ifsResponse {s : State} (h : HoldsLimits s) (p : Bytes) : HoldsLimits (ifsResponse p s) := by
  unfold Machine.ifsResponse
  split
  · split <;> exact h
  · exact h

theorem applyAtr {s : State} (h : HoldsLimits s) (atr : Option AtrFields) (p : Bytes) :
    HoldsLimits (applyAtr atr p s) := by
  cases atr <;> exact h

theorem dispatchS {sub : SSub} {p : Bytes} {atr : Option AtrFields} {s t : State} (h : HoldsLimits s)
    (ht : dispatchS sub p atr s = .next t) : HoldsLimits t := by
  have hrxc := h.withRxc { s.rxc with sSubtype := sub }
  have hunexpected (c : Cause) (hu : unexpectedS c { s with rxc := { s.rxc with sSubtype := sub } } = .next t) :
      HoldsLimits t :=
    (hrxc.withCause c).guarded hu
  cases sub with
  | unknown c => exact hunexpected _ ht
  | invalid => exact hunexpected _ ht
  | named n =>
    cases n with
    | wtxReq => cases ht; exact hrxc.wtxRequest
    | resynchRsp | abortRsp | hardResetRsp | endOfSessionRsp => cases ht; exact hrxc
    | ifsRsp => cases ht; exact hrxc.ifsResponse p
    | intfResetRsp => cases ht; exact (hrxc.withVariant _).applyAtr atr p
    | atrRsp => cases ht; exact hrxc.applyAtr atr p
    | resynchReq | ifsReq | abortReq | wtxRsp | endOfSessionReq | hardResetReq | atrReq | intfResetReq =>
      exact hunexpected _ ht

theorem dispatch {f : Frame} {s t : State} (h : HoldsLimits s) (ht : dispatch f s = .next t) : HoldsLimits t := by
  have hcleared (k : RxKind) : HoldsLimits (setRxKind k (Machine.clearOnDecode f s)) := (h.clearOnDecode f).withRxc _
  cases f with
  | i seq chained p => exact (hcleared .i).dispatchI ht
  | r seq kind err => exact (hcleared .r).dispatchR ht
  | s sub p atr w => exact (hcleared .s).dispatchS ht


theorem seqStep {s t : State} (h : HoldsLimits s) (ht : seqStep s = .next t) : HoldsLimits t := by
  by_cases hp : s.pstate = .idle
  · rw [Machine.seqStep, if_pos hp] at ht
    cases ht
    exact h
  rw [seqStep_eq_react hp] at ht
  rcases exchange_cases s with ⟨r, heq, hr⟩ | ⟨F, -, -, ⟨-, heq⟩ | ⟨-, heq⟩⟩ <;> rw [heq] at ht
  · rcases hr with ⟨-, rfl⟩ | ⟨-, -, rfl⟩ | ⟨-, -, rfl⟩ <;> cases ht
  · cases ht
    exact h
  · rcases receiveFrame_cases { chSend F s with txf := F, ltx := s.ntx } with
      ⟨c, r, hlost, hr, -⟩ | ⟨G, i, -, hi, hgot⟩
    · have hreceived : HoldsLimits (setCause c r) := by
        rcases hr with rfl | ⟨G, -, rfl⟩ <;> exact h
      rw [hlost] at ht
      cases ht
      exact hreceived.retryPolicy
    · obtain ⟨f, hf⟩ := decodeInstr_isWire hi
      simp only [hgot, react, dispatchWire, hf] at ht
      exact dispatch (s := { chRecv { chSend F s with txf := F, ltx := s.ntx } with rxf := G }) h ht

end HoldsLimits

/-! ## Every operation of the block -/

theorem ModeKept.execSeedIframe {buf : Option BufRef} {n : Nat} {s t : State} (h : execSeedIframe buf n s = .next t) :
    ModeKept s t := by
  unfold Machine.execSeedIframe at h
  split at h <;> cases h <;> exact { ModeKept.refl s with }

theorem HoldsLimits.execSeedIframe {buf : Option BufRef} {n : Nat} {s t : State} (h : HoldsLimits s)
    (ht : execSeedIframe buf n s = .next t) : HoldsLimits t := by
  unfold Machine.execSeedIframe at ht
  split at ht <;> cases ht <;> exact h

theorem ModeKept.seedSframe (sub : SSub) (p : Bytes) (s : State) : ModeKept s (seedSframe sub p s) := by
  unfold Machine.seedSframe
  split
  · split <;> exact { ModeKept.refl s with }
  · exact { ModeKept.refl s with }
  · exact { ModeKept.refl s with }

theorem HoldsLimits.seedSframe {s : State} (h : HoldsLimits s) (sub : SSub) (p : Bytes) :
    HoldsLimits (seedSframe sub p s) := by
  unfold Machine.seedSframe
  split
  · split <;> exact h
  · exact h
  · exact h

/-- Outside the operations of the host, the codec, power-on reset and `run`, an instruction keeps the mode and leaves
the configuration's values in the read-only registers. -/
theorem exec_keeps_mode_and_limits {i : Instr} {s t : State} (hhost : i.isHostOp = false) (hcodec : i.isCodecOp = false)
    (hpower : i ≠ .powerOnReset) (hrun : i ≠ .run) (hs : HoldsLimits s) (h : exec i s = .next t) :
    ModeKept s t ∧ HoldsLimits t := by
  have dispatched (f : Frame) (hf : dispatch f s = .next t) : ModeKept s t ∧ HoldsLimits t :=
    ⟨.of_protocolOnly (dispatch_protocolOnly hf), hs.dispatch hf⟩
  cases i with
  | iShort | iExt | lock | rAck | rNackParity | rNackOther | rNackMissing | rUndefBit5 | rUndefBit3 | rUndefBit2
  | sResynchReq | sResynchRsp | sIfsReq | sIfsRsp | sAbortReq | sAbortRsp | sWtxReq | sWtxRsp | sEndOfSessionReq
  | sEndOfSessionRsp | sHardResetReq | sHardResetRsp | sAtrReq | sAtrRsp | sIntfResetReq | sIntfResetRsp
  | sUnknown => exact dispatched _ ((exec_wire rfl s).symm.trans h)
  | dispatch f => exact dispatched f h
  | openSession | transceive | acquireLock | release | reset | close | closeAllSessions | setIfs | getIfs | getAtr
  | setEndpoint | resetEndpoint => cases hhost
  | computeLrc | checkLrc | encodeIframe | encodeRframe | encodeSframe | encodeLock | decode => cases hcodec
  | powerOnReset => exact absurd rfl hpower
  | run => exact absurd rfl hrun
  | step => exact ⟨.of_seqStep h, hs.seqStep h⟩
  | seedIframe => exact ⟨.execSeedIframe h, hs.execSeedIframe h⟩
  | seedSframe sub p => cases h; exact ⟨.seedSframe sub p s, hs.seedSframe sub p⟩
  | nextIframeCtx => exact ⟨.of_surroundings (surroundings_nextIframe h), hs.nextIframe h⟩
  | guarded => exact ⟨.of_surroundings (surroundings_guarded h), hs.guarded h⟩
  | retransmit => exact ⟨.of_surroundings (surroundings_retransmit h), hs.guardedAction (a := .retransmit) h⟩
  | retryPolicy => cases h; exact ⟨.of_surroundings (surroundings_retryPolicy s), hs.retryPolicy⟩
  | recoveryProcedure =>
    cases h
    exact ⟨.of_surroundings (surroundings_recoveryProcedure s), hs.recoveryProcedure⟩
  | seedLock | seedRframe => cases h; exact ⟨.of_surroundings rfl, hs⟩
  | giveUp | resetParams => cases h; exact ⟨.of_surroundings rfl, .resetParams s⟩

/-- Settles O56: the mode by `ModeKept`, and the read-only registers because they hold the configuration's values before
and after; `run` writes the operation in progress alone. -/
theorem stepWritesNoMode : Obligations.StepWritesNoMode := by
  intro i s t hhost hcodec hpower hsv h
  by_cases hrun : i = .run
  · subst hrun
    cases h
    exact ⟨rfl, rfl, rfl, rfl, rfl, rfl, fun hne => absurd rfl hne, rfl, rfl, rfl⟩
  · have hs := holdsLimits_of_svOk hsv
    obtain ⟨hmode, ht⟩ := exec_keeps_mode_and_limits hhost hcodec hpower hrun hs h
    obtain ⟨hifs, hwtx, hrnack⟩ := hs
    obtain ⟨hifs', hwtx', hrnack'⟩ := ht
    rw [hmode.cfg] at hifs' hwtx' hrnack'
    exact ⟨hmode.cfg, hmode.top, hmode.epsel, hmode.epEse, hmode.epEuicc, hmode.hostIn, fun _ => hmode.ctl,
      hifs'.trans hifs.symm, hwtx'.trans hwtx.symm, hrnack'.trans hrnack.symm⟩

end Machine
end Sys2Proof
end

section
/-! Exchanges with a peer that gives the same answer every time: one that is silent, and one that only asks for time. -/

namespace Sys2Proof
namespace Machine

/-! ## An exchange inside a `run` -/

/-- A state of the invariant inside a `run`, about to send a frame that the encoder can build, with a quiet host. -/
structure Exchanging (k : Cont) (s : State) : Prop where
  inv : s.Inv
  quiet : s.hostIn = []
  running : s.ctl = .running k
  sending : s.pstate ≠ .idle
  fits : ¬ OverlongLegacy s

namespace Exchanging

/-- Inside a `run` the machine's transition reacts to the answer of the peer, when the adapter takes the frame. -/
theorem step_of_answer {k : Cont} {s : State} {ss : List SendAnswer} {a : RecvAnswer} {rs : List RecvAnswer}
    (h : Exchanging k s) (hss : s.sendScript = .ok :: ss) (hrs : s.recvScript = a :: rs) :
    ∃ F, step s = react (onAnswer a (afterReceive a rs (afterSend F ss s))) := by
  rcases h.inv.frameFor_cases h.sending with ⟨F, hF⟩ | ⟨-, hlong⟩
  · refine ⟨F, ?_⟩
    rw [step_running h.running h.quiet h.sending]
    exact seqStep_of_answer h.sending h.inv.agrees hF hss hrs
  · exact absurd hlong h.fits

/-- A transition to another send state than that of an I-frame goes on with the exchange. -/
theorem of_step {k : Cont} {s u : State} (h : Exchanging k s) (hu : step s = .next u) (hp : u.pstate ≠ .idle)
    (hi : u.pstate ≠ .sendIframe) : Exchanging k u := by
  have hmode : ModeKept s u := .of_seqStep ((step_running h.running h.quiet h.sending).symm.trans hu)
  exact
    { inv := invIsKeptByEveryStep s u h.inv hu
      quiet := hmode.hostIn.trans h.quiet
      running := hmode.ctl.trans h.running
      sending := hp
      fits := fun hlong => hi hlong.1 }

end Exchanging

theorem run_succ {M : Host.Core} {s u : M.State} (hu : M.step s = .next u) (n : Nat) : M.run (n + 1) s = M.run n u := by
  simp only [Host.Core.run, hu]

/-! ## A silent peer -/

/-- The state `s` after a transition whose receive timed out, before the retry policy (R160). -/
def afterTimeout (F : Bytes) (ss : List SendAnswer) (rs : List RecvAnswer) (s : State) : State :=
  { s with
    txf := F, ltx := s.ntx, sendScript := ss, recvScript := rs, cause := .timeout
    trace := .received s.cfg.recvTimeout .timeout :: .sent F .ok :: s.trace }

theorem Exchanging.step_of_timeout {k : Cont} {s : State} {ss : List SendAnswer} {rs : List RecvAnswer}
    (h : Exchanging k s) (hss : s.sendScript = .ok :: ss) (hrs : s.recvScript = .timeout :: rs) :
    ∃ F, step s = .next (retryPolicy (afterTimeout F ss rs s)) :=
  h.step_of_answer hss hrs

/-- What an exchange with a silent peer comes to from `s` on, with `n` retries left (R236). The frame sent last is the
R-NACK of the retries, or, without any, the frame that `s` prepared. -/
structure RetriesExhausted (k : Cont) (n : Nat) (ss : List SendAnswer) (rs : List RecvAnswer) (s t : State) : Prop where
  pstate : t.pstate = .idle
  status : t.status = .recoveryExhausted
  cause : t.cause = .timeout
  sv : t.sv = { s.sv with rnackRetryCounter := s.sv.rnackRetryLimit }
  rlist : t.rlist = s.rlist
  rxc : t.rxc = s.rxc
  ctl : t.ctl = .running k
  sendScript : t.sendScript = ss
  recvScript : t.recvScript = rs
  ltx_of_zero : n = 0 → t.ltx = s.ntx
  ltx_of_retry : n ≠ 0 → t.ltx.ftype = .r ∧ t.ltx.r = { kind := .nack, err := .parity, seq := !s.rxc.iSeq }

/-- By induction on the retries left: a timeout uses one of them, and without any it ends the exchange. -/
theorem Exchanging.run_silent {k : Cont} {ss : List SendAnswer} {rs : List RecvAnswer} (n : Nat) :
    ∀ s, Exchanging k s → s.sv.rnackRetryLimit = s.sv.rnackRetryCounter + n →
      s.sendScript = List.replicate (n + 1) .ok ++ ss → s.recvScript = List.replicate (n + 1) .timeout ++ rs →
      ∃ t, Host.Core.run core (n + 1) s = .next t ∧ RetriesExhausted k n ss rs s t := by
  induction n with
  | zero =>
    intro s h hleft hss hrs
    obtain ⟨F, hstep⟩ := h.step_of_timeout (ss := ss) (rs := rs) hss hrs
    have hlimit : s.sv.rnackRetryLimit = s.sv.rnackRetryCounter := hleft
    rcases retryPolicy_cases (afterTimeout F ss rs s) with ⟨hlt, -⟩ | ⟨-, heq⟩
    · exact absurd hlt (not_lt.mpr hleft.le)
    · rw [heq] at hstep
      refine ⟨_, run_succ (M := core) hstep 0, ?_⟩
      exact
        { pstate := rfl, status := rfl, cause := rfl, rlist := rfl, rxc := rfl, ctl := h.running, sendScript := rfl
          recvScript := rfl
          sv := by rw [hlimit]; rfl
          ltx_of_zero := fun _ => rfl
          ltx_of_retry := fun hne => absurd rfl hne }
  | succ n ih =>
    intro s h hleft hss hrs
    obtain ⟨F, hstep⟩ := h.step_of_timeout hss hrs
    rcases retryPolicy_cases (afterTimeout F _ _ s) with ⟨-, heq⟩ | ⟨hle, -⟩
    · rw [heq] at hstep
      have hnext := h.of_step hstep nofun nofun
      have hleft' : s.sv.rnackRetryLimit = s.sv.rnackRetryCounter + 1 + n := by omega
      obtain ⟨t, hrun, ht⟩ := ih _ hnext hleft' rfl rfl
      refine ⟨t, (run_succ (M := core) hstep _).trans hrun, ?_⟩
      exact
        { ht with
          ltx_of_zero := nofun
          ltx_of_retry := fun _ => by
            rcases Nat.eq_zero_or_pos n with hn | hn
            · rw [ht.ltx_of_zero hn]
              exact ⟨rfl, rfl⟩
            · exact ht.ltx_of_retry hn.ne' }
    · have hle : s.sv.rnackRetryLimit ≤ s.sv.rnackRetryCounter := hle
      omega

/-- Settles O58, by induction on the retries left. -/
theorem silentPeerExhaustsTheRetries : Obligations.SilentPeerExhaustsTheRetries := by
  intro s k n ss rs hinv hquiet hk hp hfits hleft hss hrs
  obtain ⟨t, hrun, h⟩ := Exchanging.run_silent n s ⟨hinv, hquiet, hk, hp, hfits⟩ hleft hss hrs
  exact ⟨t, hrun, h.pstate, h.status, h.cause, h.sv, h.rlist, h.rxc, h.ctl, h.sendScript, h.recvScript,
    h.ltx_of_retry⟩

/-! ## A peer that only asks for time -/

/-- The state `s` after a transition that received a WTX request in the bytes `G`, before the count (R180, R187). -/
def afterWtxReq (F G : Bytes) (ss : List SendAnswer) (rs : List RecvAnswer) (s : State) : State :=
  { s with
    txf := F, ltx := s.ntx, rxf := G, sendScript := ss, recvScript := rs
    trace := .received s.cfg.recvTimeout (.bytes G) :: .sent F .ok :: s.trace
    rxc := { s.rxc with ftype := .s, sSubtype := .named .wtxReq }
    sv := { s.sv with rnackRetryCounter := 0 } }

theorem Exchanging.step_of_wtxReq {k : Cont} {s : State} {G p : Bytes} {ss : List SendAnswer} {rs : List RecvAnswer}
    (h : Exchanging k s) (hdec : decodeInstr s.cfg s.variant s.epsel G = .ok (.sWtxReq p))
    (hss : s.sendScript = .ok :: ss) (hrs : s.recvScript = .bytes G :: rs) :
    ∃ F, step s = .next (wtxRequest (afterWtxReq F G ss rs s)) := by
  obtain ⟨F, hstep⟩ := h.step_of_answer hss hrs
  rw [onAnswer_of_ok (s := afterReceive (.bytes G) rs (afterSend F ss s)) hdec] at hstep
  exact ⟨F, hstep⟩

/-- What an exchange comes to from `s` on with a peer that only asks for time, `n + 1` requests below the limit (R193).
The frame sent last is the last WTX response, or, without any, the frame that `s` prepared. -/
structure WtxExhausted (k : Cont) (n : Nat) (ss : List SendAnswer) (rs : List RecvAnswer) (s t : State) : Prop where
  pstate : t.pstate = .idle
  status : t.status = .transceiveFailed
  sv : t.sv = { s.sv with wtxCounter := s.sv.wtxCounterLimit, rnackRetryCounter := 0 }
  rlist : t.rlist = s.rlist
  command : t.ntx.i = s.ntx.i
  ctl : t.ctl = .running k
  sendScript : t.sendScript = ss
  recvScript : t.recvScript = rs
  ltx_of_zero : n = 0 → t.ltx = s.ntx
  ltx_of_response : n ≠ 0 →
    t.ltx.ftype = .s ∧ t.ltx.s = { subtype := .named .wtxRsp, payload := [s.cfg.wtxRspPayload] }

/-- By induction on the requests below the limit: a request is answered, and the one that reaches the limit ends the
exchange. -/
theorem Exchanging.run_wtx {k : Cont} {G p : Bytes} {ss : List SendAnswer} {rs : List RecvAnswer} (n : Nat) :
    ∀ s, Exchanging k s → s.sv.wtxCounterLimit = s.sv.wtxCounter + (n + 1) →
      decodeInstr s.cfg s.variant s.epsel G = .ok (.sWtxReq p) →
      s.sendScript = List.replicate (n + 1) .ok ++ ss → s.recvScript = List.replicate (n + 1) (.bytes G) ++ rs →
      ∃ t, Host.Core.run core (n + 1) s = .next t ∧ WtxExhausted k n ss rs s t := by
  induction n with
  | zero =>
    intro s h hleft hdec hss hrs
    obtain ⟨F, hstep⟩ := h.step_of_wtxReq (ss := ss) (rs := rs) hdec hss hrs
    rcases wtxRequest_cases (afterWtxReq F G ss rs s) with ⟨hlt, -⟩ | ⟨-, heq⟩
    · exact absurd hlt (not_lt.mpr hleft.le)
    · rw [heq] at hstep
      refine ⟨_, run_succ (M := core) hstep 0, ?_⟩
      exact
        { pstate := rfl, status := rfl, rlist := rfl, command := rfl, ctl := h.running, sendScript := rfl
          recvScript := rfl
          sv := by rw [hleft]; rfl
          ltx_of_zero := fun _ => rfl
          ltx_of_response := fun hne => absurd rfl hne }
  | succ n ih =>
    intro s h hleft hdec hss hrs
    obtain ⟨F, hstep⟩ := h.step_of_wtxReq hdec hss hrs
    rcases wtxRequest_cases (afterWtxReq F G _ _ s) with ⟨-, heq⟩ | ⟨hle, -⟩
    · rw [heq] at hstep
      have hnext := h.of_step hstep nofun nofun
      have hleft' : s.sv.wtxCounterLimit = s.sv.wtxCounter + 1 + (n + 1) := by omega
      obtain ⟨t, hrun, ht⟩ := ih _ hnext hleft' hdec rfl rfl
      refine ⟨t, (run_succ (M := core) hstep _).trans hrun, ?_⟩
      exact
        { ht with
          ltx_of_zero := nofun
          ltx_of_response := fun _ => by
            rcases Nat.eq_zero_or_pos n with hn | hn
            · rw [ht.ltx_of_zero hn]
              exact ⟨rfl, rfl⟩
            · exact ht.ltx_of_response hn.ne' }
    · have hle : s.sv.wtxCounterLimit ≤ s.sv.wtxCounter + 1 := hle
      omega

/-- Settles O59, by induction on the requests below the limit. -/
theorem wtxRequestsAreBounded : Obligations.WtxRequestsAreBounded := by
  intro s k n G p ss rs hinv hquiet hk hp hfits hleft hdec hss hrs
  obtain ⟨t, hrun, h⟩ := Exchanging.run_wtx n s ⟨hinv, hquiet, hk, hp, hfits⟩ hleft hdec hss hrs
  exact ⟨t, hrun, h.pstate, h.status, h.sv, h.rlist, h.command, h.ctl, h.sendScript, h.recvScript,
    h.ltx_of_response⟩

end Machine
end Sys2Proof
end

section
/-! What a received frame does, once for each of the three ways the dispatch can take: a frame that is accepted, an
acknowledgement that advances, and a frame that is rejected, which comes to the guard with nothing of it applied. -/

namespace Sys2Proof
namespace Machine

/-! ## The guard and its actions -/

/-- Below its limit the guard counts the action that completes (R237). -/
theorem guarded_of_lt {a : GuardedAction} {s t : State} (hlt : s.sv.recoveryCounter < s.cfg.frameRetryCount)
    (ht : guardedAction a s = .next t) : guarded a s = .next (setRecovery (s.sv.recoveryCounter + 1) t) := by
  rw [guarded, if_pos hlt, ht, ← guardedAction_sv ht]

/-- At its limit the guard runs the recovery procedure, whatever the action (R237). -/
theorem guarded_of_le {s : State} (hle : s.cfg.frameRetryCount ≤ s.sv.recoveryCounter) (a : GuardedAction) :
    guarded a s = .next (recoveryProcedure s) := by
  rw [guarded, if_neg (not_lt.mpr hle)]

theorem recoveryProcedure_of_le {s : State} (hle : s.sv.recoveryCounter ≤ s.cfg.frameRetryCount) :
    recoveryProcedure s =
      { setRecovery (s.sv.recoveryCounter + 1) (loadSframe .intfResetReq [] .sendSIntfReset s) with
        status := s.cfg.recoveryStatus } :=
  if_pos hle

theorem recoveryProcedure_of_lt {s : State} (hlt : s.cfg.frameRetryCount < s.sv.recoveryCounter) :
    recoveryProcedure s = giveUp s :=
  if_neg (not_le.mpr hlt)

/-- The seven subtypes with the states that send them (R146). -/
theorem stateOfName_of_mem : ∀ x ∈ [(SName.resynchReq, PState.sendSResync), (.ifsReq, .sendSIfsAdjust),
    (.wtxRsp, .sendSWtxResponse), (.atrReq, .sendSAtrRequest), (.intfResetReq, .sendSIntfReset),
    (.endOfSessionReq, .sendSEndOfSession), (.hardResetReq, .sendSHardReset)], stateOfName x.1 = some x.2 := by
  decide

theorem replayS_of_state {s : State} {n : SName} {ps : PState} (hsub : s.ltx.s.subtype = .named n)
    (hn : stateOfName n = some ps) : replayS s = .next { s with ntx := s.ltx, pstate := ps } := by
  simp only [replayS, hsub, stateOf, hn]

/-- After an S-frame the same S-frame goes out again (R239, R240). -/
theorem retransmit_sframe_of_state {s : State} {n : SName} {ps : PState} (h : s.ltx.ftype = .s)
    (hsub : s.ltx.s.subtype = .named n) (hn : stateOfName n = some ps) :
    retransmit s = .next { s with ntx := s.ltx, pstate := ps } :=
  (retransmit_sframe h).trans (replayS_of_state hsub hn)

theorem retransmit_iframe {s : State} (h : s.ltx.ftype = .i) :
    retransmit s = .next { s with ntx := s.ltx, pstate := .sendIframe } := by
  simp only [retransmit, h]

theorem retransmit_lock {s : State} (h : s.ltx.ftype = .lock) :
    retransmit s = .next { s with ntx := s.ltx, pstate := .sendLockAcquire } := by
  simp only [retransmit, h]

theorem retransmit_nothing {s : State} (h : s.ltx.ftype = .none) :
    retransmit s = .next (loadRframe .nack .other s) := by
  simp only [retransmit, h]

/-- After an R-NACK the pending fragment whose bit comes back goes out again (R240). -/
theorem retransmit_rframe_resend {s : State} (h : s.ltx.ftype = .r) (hpending : ltxPending s = true)
    (hseq : s.rxc.rSeq = s.ltx.i.seq) (hkind : s.ltx.r.kind = .nack) :
    retransmit s = .next { s with ntx := { s.ltx with ftype := .i }, pstate := .sendIframe } := by
  simp only [retransmit, h]
  exact if_pos ⟨hpending, hseq, hkind⟩

/-- An R-ACK that the peer missed goes out again (R240). -/
theorem retransmit_rframe_ackLost {s : State} (h : s.ltx.ftype = .r) (hseq : s.rxc.rSeq ≠ s.ltx.i.seq)
    (hkind : s.ltx.r.kind = .ack) : retransmit s = .next { s with ntx := s.ltx, pstate := .sendRAck } := by
  simp only [retransmit, h]
  rw [if_neg fun hresend => hseq hresend.2.1, if_pos ⟨hseq, hkind⟩]

/-- After an R-frame that is neither of the two cases above, an R-NACK goes out (R240). -/
theorem retransmit_rframe_nack {s : State} (h : s.ltx.ftype = .r)
    (hresend : ¬ (ltxPending s = true ∧ s.rxc.rSeq = s.ltx.i.seq ∧ s.ltx.r.kind = .nack))
    (hackLost : ¬ (s.rxc.rSeq ≠ s.ltx.i.seq ∧ s.ltx.r.kind = .ack)) :
    retransmit s = .next (loadRframe .nack .other s) := by
  simp only [retransmit, h]
  rw [if_neg hresend, if_neg hackLost]

/-! ## The three ways of the dispatch -/

/-- What the receive context records of a frame before the block decides on it (R180, R184, R187). -/
def recordRx : Frame → RxCtx → RxCtx
  | .i _ _ _, x => { x with ftype := .i }
  | .r n _ e, x => { x with ftype := .r, rSeq := n, rErr := e }
  | .s sub _ _ _, x => { x with ftype := .s, sSubtype := sub }

/-- The state that has recorded a frame other than a WTX request, with the two counters of R180 cleared. -/
def recorded (f : Frame) (s : State) : State :=
  { s with rxc := recordRx f s.rxc, sv := { s.sv with rnackRetryCounter := 0, wtxCounter := 0 } }

theorem clearOnDecode_of_not_wtxReq {f : Frame} (h : isWtxReq f = false) (s : State) :
    clearOnDecode f s = setWtx 0 (setRnack 0 s) := by
  simp [clearOnDecode, h]

/-- The bit expected next and the chaining are those of the last I-frame accepted, which a record leaves alone. -/
theorem recordRx_expected (f : Frame) (x : RxCtx) :
    (recordRx f x).iSeq = x.iSeq ∧ (recordRx f x).iChained = x.iChained := by
  cases f <;> exact ⟨rfl, rfl⟩

/-! ### One equation per kind of frame -/

theorem dispatch_i (q m : Bit) (p : Bytes) (s : State) :
    dispatch (.i q m p) s = dispatchI q m p (recorded (.i q m p) s) := by
  rw [dispatch, clearOnDecode_of_not_wtxReq rfl]
  rfl

theorem dispatch_r (n : Bit) (k : AckKind) (e : ErrClass) (s : State) :
    dispatch (.r n k e) s =
      if ackAdvances n k s then advanceFragment (recorded (.r n k e) s)
      else guarded .retransmit (setCause .sequenceMismatch (recorded (.r n k e) s)) := by
  rw [dispatch, clearOnDecode_of_not_wtxReq rfl]
  rfl

theorem dispatch_s {sub : SSub} (p : Bytes) (atr : Option AtrFields) (w : Warning)
    (hsub : isWtxReq (.s sub p atr w) = false) (s : State) :
    dispatch (.s sub p atr w) s = dispatchS sub p atr (recorded (.s sub p atr w) s) := by
  rw [dispatch, clearOnDecode_of_not_wtxReq hsub]
  rfl

/-! ### Accepted frames and advancing acknowledgements -/

/-- A new I-frame is accepted (R181). -/
theorem dispatch_new_iframe (m : Bit) (p : Bytes) (s : State) :
    dispatch (.i (!s.rxc.iSeq) m p) s =
      .next (acceptI (!s.rxc.iSeq) m p (recorded (.i (!s.rxc.iSeq) m p) s)) := by
  rw [dispatch_i]
  exact if_pos rfl

theorem ackAdvances_iff {seq : Bit} {kind : AckKind} {s : State} :
    ackAdvances seq kind s = true ↔
      kind = .ack ∧ s.ltx.i.buf ≠ none ∧ s.ltx.i.chained = true ∧ seq = !s.ltx.i.seq := by
  simp [ackAdvances, Option.isSome_iff_ne_none, and_assoc]

/-- An acknowledgement of the chained fragment sent last advances (R184). -/
theorem dispatch_advancing_ack {n : Bit} {s : State} (h : ackAdvances n .ack s = true) (e : ErrClass) :
    dispatch (.r n .ack e) s = advanceFragment (recorded (.r n .ack e) s) := by
  rw [dispatch_r, if_pos h]

/-- `advance` under the precondition of `next_iframe_ctx` (R142, R185). -/
theorem advanceFragment_next {s : State} (hchained : s.ntx.i.chained = true)
    (hlen : s.ntx.i.fragLen ≤ s.ntx.i.remaining) :
    advanceFragment s = .next { setRecovery 0 s with
      ntx := { s.ntx with ftype := .i, i := nextFragment s.ntx.i }, pstate := .sendIframe } := by
  rw [advanceFragment, nextIframe_next (s := setRecovery 0 s) hchained hlen]
  rfl

/-- A frame that is not the expected one: a duplicate I-frame (R183), an R-frame that does not advance (R186), an
S-frame that no state of the block asks for (R194). -/
def Rejects (s : State) : Frame → Prop
  | .i q _ _ => q = s.rxc.iSeq
  | .r n k _ => ¬ (k = .ack ∧ s.ltx.i.buf ≠ none ∧ s.ltx.i.chained = true ∧ n = !s.ltx.i.seq)
  | .s (.named n) _ _ _ => n.isRsp = false ∧ n ≠ .wtxReq ∨ n = .wtxRsp
  | .s _ _ _ _ => True

/-- The cause a rejected frame leaves (R183, R186, R194). -/
def rejectionCause : Frame → Cause
  | .s (.unknown _) _ _ _ => .unknownSubtype
  | _ => .sequenceMismatch

/-- The sleep before the guard's test, at a duplicate I-frame alone (R183). -/
def rejectionSleep (c : Cfg) : Frame → List ChEvent
  | .i _ _ _ => [.slept c.recoveryDelay]
  | _ => []

/-- The state in which a rejected frame comes to the guard. -/
def rejected (f : Frame) (s : State) : State :=
  { recorded f s with cause := rejectionCause f, trace := rejectionSleep s.cfg f ++ s.trace }

/-- What the guard does about a rejected frame while attempts remain (R183, R186, R194). -/
def rejectionAction (s : State) : Frame → GuardedAction
  | .i _ _ _ => .nackOther
  | .r _ _ _ => .retransmit
  | .s _ _ _ _ => if lastSentNonWtxS s then .replayS else .nackOther

theorem rejectionCause_ne_none (f : Frame) : rejectionCause f ≠ .none := by
  unfold rejectionCause
  split <;> nofun

theorem isWtxReq_of_rejects {f : Frame} {s : State} (h : Rejects s f) : isWtxReq f = false := by
  unfold isWtxReq
  split
  · simp [Rejects, SName.isRsp] at h
  · rfl

/-- `dispatch_s` comes to `unexpected_s` for a rejected S-frame (R187). -/
theorem dispatchS_of_rejects {sub : SSub} {p : Bytes} {atr : Option AtrFields} {w : Warning} {s : State}
    (h : Rejects s (.s sub p atr w)) (u : State) : dispatchS sub p atr u =
      unexpectedS (rejectionCause (.s sub p atr w)) { u with rxc := { u.rxc with sSubtype := sub } } := by
  cases sub with
  | unknown c => rfl
  | invalid => rfl
  | named n =>
    cases n with
    | wtxReq | resynchRsp | abortRsp | hardResetRsp | endOfSessionRsp | ifsRsp | intfResetRsp | atrRsp =>
      simp [Rejects, SName.isRsp] at h
    | resynchReq | ifsReq | abortReq | wtxRsp | endOfSessionReq | hardResetReq | atrReq | intfResetReq => rfl

/-- A rejected frame comes to the guard, with its kind's action and nothing but its record written (R183, R186,
R194). -/
theorem dispatch_of_rejects {f : Frame} {s : State} (h : Rejects s f) :
    dispatch f s = guarded (rejectionAction s f) (rejected f s) := by
  cases f with
  | i q m p =>
    have hduplicate : q ≠ !s.rxc.iSeq := by
      rw [show q = s.rxc.iSeq from h]
      exact (Bool.not_ne_self _).symm
    rw [dispatch_i]
    exact if_neg hduplicate
  | r n k e =>
    have hstays : ¬ ackAdvances n k s = true := fun hack => h (ackAdvances_iff.mp hack)
    rw [dispatch_r, if_neg hstays]
    rfl
  | s sub p atr w =>
    rw [dispatch_s p atr w (isWtxReq_of_rejects h), dispatchS_of_rejects h]
    rfl

theorem exec_of_rejects {i : Instr} {f : Frame} {s : State} (hf : i.toFrame = some f) (h : Rejects s f) :
    exec i s = guarded (rejectionAction s f) (rejected f s) :=
  (exec_wire hf s).trans (dispatch_of_rejects h)

/-! ## A rejected frame is not applied -/

/-- What the guard leaves alone until it gives up: the partial response, the receive context, the cause, the session's
IFS and ATR, the mode, the variant and `LTX`; the command's context is the old one or the one sent last (R234). -/
structure NotApplied (s t : State) : Prop where
  rlist : t.rlist = s.rlist
  rxc : t.rxc = s.rxc
  cause : t.cause = s.cause
  variant : t.variant = s.variant
  top : t.top = s.top
  ltx : t.ltx = s.ltx
  ifsCurrent : t.sv.ifsCurrent = s.sv.ifsCurrent
  ifsMax : t.sv.ifsMax = s.sv.ifsMax
  atr : t.sv.atr = s.sv.atr
  command : t.ntx.i = s.ntx.i ∨ t.ntx = s.ltx ∨ t.ntx = { s.ltx with ftype := .i }

namespace NotApplied

/-- A transition that writes `NTX`, `PSTATE`, `STATUS` and the recovery counter alone. -/
theorem of_writes {s : State} {x : TxCtx} (hx : x.i = s.ntx.i ∨ x = s.ltx ∨ x = { s.ltx with ftype := .i })
    (ps : PState) (st : Status) (n : Nat) :
    NotApplied s { s with ntx := x, pstate := ps, status := st, sv := { s.sv with recoveryCounter := n } } :=
  ⟨rfl, rfl, rfl, rfl, rfl, rfl, rfl, rfl, rfl, hx⟩

theorem of_retransmit {s u : State} (hu : retransmit s = .next u) (n : Nat) : NotApplied s (setRecovery n u) := by
  rcases retransmit_cases hu with ⟨-, rfl⟩ | ⟨-, rfl⟩ | ⟨-, ps, -, rfl⟩ | ⟨-, -, -, -, rfl⟩ | ⟨-, -, -, rfl⟩ | rfl <;>
    refine of_writes ?_ _ _ n
  · exact .inr (.inl rfl)
  · exact .inr (.inl rfl)
  · exact .inr (.inl rfl)
  · exact .inr (.inr rfl)
  · exact .inr (.inl rfl)
  · exact .inl rfl

theorem of_guarded {a : GuardedAction} {s t : State} (hle : s.sv.recoveryCounter ≤ s.cfg.frameRetryCount)
    (ht : guarded a s = .next t) : NotApplied s t := by
  rcases guarded_cases ht with ⟨-, u, hu, rfl⟩ | ⟨-, rfl⟩
  · rcases guardedAction_cases hu with rfl | ⟨-, hr⟩ | ⟨-, hr⟩
    · refine of_writes ?_ _ _ _
      exact .inl rfl
    · exact of_retransmit hr _
    · obtain ⟨ps, -, rfl⟩ := replayS_cases hr
      exact of_writes (.inr (.inl rfl)) _ _ _
  · rw [recoveryProcedure_of_le hle]
    refine of_writes ?_ _ _ _
    exact .inl rfl

end NotApplied

/-- Settles O36: the guard applies nothing, and the record of the frame is in the receive context. -/
theorem rejectedFramesAreNotApplied : Obligations.RejectedFramesAreNotApplied := by
  intro s t i f hf hle hrejects ht
  have hreject : Rejects s f := hrejects
  rw [exec_of_rejects hf hreject] at ht
  have h : NotApplied (rejected f s) t := .of_guarded hle ht
  obtain ⟨hseq, hchained⟩ := recordRx_expected f s.rxc
  exact ⟨h.rlist, (congrArg RxCtx.iSeq h.rxc).trans hseq, (congrArg RxCtx.iChained h.rxc).trans hchained, h.variant,
    h.ifsCurrent, h.ifsMax, h.atr, h.top, h.command, h.ltx, h.cause ▸ rejectionCause_ne_none f⟩

/-! ## I-frames -/

/-- Settles O26: the frame in each of its forms is a dispatch of a new I-frame. -/
theorem newIframeIsAccepted : Obligations.NewIframeIsAccepted := by
  rintro s q p rfl
  have hchained := dispatch_new_iframe true p s
  have hlast := dispatch_last_iframe p s
  refine ⟨⟨(exec_wire rfl s).trans hchained, (exec_wire rfl s).trans hchained, hchained⟩,
    (exec_wire rfl s).trans hlast, (exec_wire rfl s).trans hlast, hlast, ?_⟩
  rintro rfl
  exact (exec_wire rfl s).trans hlast

/-- Settles O27: a repeated bit is rejected, and the guard's action is the R-NACK. -/
theorem duplicateIframeIsRefusedOnTheWire : Obligations.DuplicateIframeIsRefusedOnTheWire := by
  intro s q m p hq hlt
  have hreject : Rejects s (.i q m p) := hq
  have hnack := (dispatch_of_rejects hreject).trans (guarded_of_lt (s := rejected (.i q m p) s) hlt rfl)
  refine ⟨(exec_wire rfl s).trans hnack, (exec_wire rfl s).trans hnack, hnack, ?_⟩
  rintro rfl rfl
  exact (exec_wire rfl s).trans hnack

/-! ## R-frames -/

/-- Settles O28: the context being prepared is the chained fragment sent last, so `advance` completes. -/
theorem advancingAckPreparesNextFragment : Obligations.AdvancingAckPreparesNextFragment := by
  intro s n hbuf hchained hn hctx hlen
  have hack : ackAdvances n .ack s = true := ackAdvances_iff.mpr ⟨rfl, hbuf, hchained, hn⟩
  have hnext := (dispatch_advancing_ack hack .none).trans
    (advanceFragment_next (s := recorded (.r n .ack .none) s) (hctx ▸ hchained) hlen)
  exact ⟨(exec_wire rfl s).trans hnext, hnext⟩

/-- Settles O29: the frame is rejected, and below the limit the guard counts what `retransmit` does. -/
theorem otherRframesRetransmit : Obligations.OtherRframesRetransmit := by
  intro s n i k e hmem hstays hlt
  have hf : i.toFrame = some (.r n k e) := by
    simp only [List.mem_cons, Prod.mk.injEq, List.not_mem_nil, or_false] at hmem
    rcases hmem with ⟨rfl, rfl, rfl⟩ | ⟨rfl, rfl, rfl⟩ | ⟨rfl, rfl, rfl⟩ | ⟨rfl, rfl, rfl⟩ | ⟨rfl, rfl, rfl⟩ |
      ⟨rfl, rfl, rfl⟩ | ⟨rfl, rfl, rfl⟩ <;> rfl
  have hreject : Rejects s (.r n k e) := hstays
  have hsent {t : State} (ht : retransmit (rejected (.r n k e) s) = .next t) :
      exec i s = .next (setRecovery (s.sv.recoveryCounter + 1) t) :=
    (exec_of_rejects hf hreject).trans (guarded_of_lt (s := rejected (.r n k e) s) hlt ht)
  refine ⟨(exec_wire hf s).symm, fun hi => hsent (retransmit_iframe hi), fun hl => hsent (retransmit_lock hl), ?_, ?_,
    ?_, ?_, fun hnone => hsent (retransmit_nothing hnone)⟩
  · intro hs sub ps hsub hps
    exact hsent (retransmit_sframe_of_state hs hsub (stateOfName_of_mem _ hps))
  · rintro hr ⟨hpending, hseq, hkind⟩
    exact hsent (retransmit_rframe_resend hr ((ltxPending_iff _).mpr hpending) hseq hkind)
  · rintro hr ⟨hseq, hkind⟩
    exact hsent (retransmit_rframe_ackLost hr hseq hkind)
  · intro hr hresend hackLost
    refine hsent (retransmit_rframe_nack hr ?_ hackLost)
    rwa [ltxPending_iff]

/-! ## S-frames -/

/-- The four responses without data are recorded and terminate (R189). -/
theorem dispatch_plain_response : ∀ n ∈ [SName.resynchRsp, .abortRsp, .hardResetRsp, .endOfSessionRsp],
    ∀ (p : Bytes) (atr : Option AtrFields) (w : Warning) (s : State),
      dispatch (.s (.named n) p atr w) s = .next (terminate (recorded (.s (.named n) p atr w) s)) := by
  intro n hn p atr w s
  simp only [List.mem_cons, List.not_mem_nil, or_false] at hn
  rcases hn with rfl | rfl | rfl | rfl <;> exact dispatch_s p atr w rfl s

/-- Settles O30: each of the four responses is recorded and terminates. -/
theorem plainResponsesTerminate : Obligations.PlainResponsesTerminate := by
  intro s p i sub hmem
  obtain ⟨hf, hsub⟩ : i.toFrame = some (.s (.named sub) p none .none) ∧
      sub ∈ [SName.resynchRsp, .abortRsp, .hardResetRsp, .endOfSessionRsp] := by
    simp only [List.mem_cons, Prod.mk.injEq, List.not_mem_nil, or_false] at hmem
    rcases hmem with ⟨rfl, rfl⟩ | ⟨rfl, rfl⟩ | ⟨rfl, rfl⟩ | ⟨rfl, rfl⟩ <;> exact ⟨rfl, by decide⟩
  have hdone := dispatch_plain_response sub hsub p none .none s
  exact ⟨(exec_wire hf s).trans hdone, hdone⟩

theorem exec_sIfsRsp (p : Bytes) (s : State) :
    exec (.sIfsRsp p) s = .next (ifsResponse p (recorded (sFrame .ifsRsp p) s)) :=
  (exec_wire rfl s).trans (dispatch_s p _ _ rfl s)

theorem ifsAcceptable_iff {v : Variant} {n : Nat} :
    ifsAcceptable v n = true ↔ 1 ≤ n ∧ (v = .extended ∨ n ≤ Config.shortLenMax) := by
  simp [ifsAcceptable]

/-- An IFS response whose value the variant can use sets the bound (R190). -/
theorem ifsResponse_of_acceptable {p : Bytes} {n : Nat} {s : State} (hv : ifsValue p = some n)
    (hn : ifsAcceptable s.variant n = true) : ifsResponse p s = terminate (writeIfs n s) := by
  simp only [ifsResponse, hv, hn, if_true]

/-- Every other IFS response only terminates (R190). -/
theorem ifsResponse_of_unacceptable {p : Bytes} {s : State}
    (h : ∀ n, ifsValue p = some n → ¬ ifsAcceptable s.variant n = true) : ifsResponse p s = terminate s := by
  unfold ifsResponse
  split
  · rename_i n hv
    rw [if_neg (h n hv)]
  · rfl

/-- Settles O31: by whether the value of the payload is acceptable. -/
theorem ifsResponseSetsTheBound : Obligations.IfsResponseSetsTheBound := by
  intro s p t v
  have hv : v = ifsValue p := rfl
  clear_value v
  subst hv
  rw [exec_sIfsRsp]
  constructor
  · intro n hn hpos hfits
    rw [ifsResponse_of_acceptable (s := recorded _ s) hn (ifsAcceptable_iff.mpr ⟨hpos, hfits⟩)]
    rfl
  · intro hbad
    rw [ifsResponse_of_unacceptable]
    · rfl
    · intro n hn hacc
      obtain ⟨hpos, hfits⟩ := ifsAcceptable_iff.mp hacc
      rw [hn] at hbad
      rcases hbad with hnone | hzero | ⟨m, hm, hlong, hlegacy⟩
      · cases hnone
      · cases hzero
        omega
      · cases hm
        rcases hfits with hext | hshort
        · exact absurd (hext.symm.trans hlegacy) nofun
        · exact absurd hlong (not_lt.mpr hshort)

theorem atrOf_nil (n : SName) : atrOf n [] = none := if_neg fun h => h.2 rfl

theorem atrOf_of_ne_nil {n : SName} {p : Bytes} (hn : n = .atrRsp ∨ n = .intfResetRsp) (hp : p ≠ []) :
    atrOf n p = some (Config.parseAtr p) :=
  if_pos ⟨hn, hp⟩

theorem exec_sIntfResetRsp (p : Bytes) (s : State) : exec (.sIntfResetRsp p) s =
    .next (intfResetResponse (atrOf .intfResetRsp p) p (recorded (sFrame .intfResetRsp p) s)) :=
  (exec_wire rfl s).trans (dispatch_s p _ _ rfl s)

theorem exec_sAtrRsp (p : Bytes) (s : State) :
    exec (.sAtrRsp p) s = .next (atrResponse (atrOf .atrRsp p) p (recorded (sFrame .atrRsp p) s)) :=
  (exec_wire rfl s).trans (dispatch_s p _ _ rfl s)

/-- Settles O32: an ATR is applied exactly where the payload is not empty. -/
theorem atrBearingResponses : Obligations.AtrBearingResponses := by
  intro s p i sub hmem
  simp only [List.mem_cons, Prod.mk.injEq, List.not_mem_nil, or_false] at hmem
  rcases hmem with ⟨rfl, rfl⟩ | ⟨rfl, rfl⟩
  · refine ⟨?_, fun hp => ?_⟩
    · rintro rfl
      rw [exec_sIntfResetRsp, atrOf_nil]
      rfl
    · rw [exec_sIntfResetRsp, atrOf_of_ne_nil (.inr rfl) hp]
      rfl
  · refine ⟨?_, fun hp => ?_⟩
    · rintro rfl
      rw [exec_sAtrRsp, atrOf_nil]
      rfl
    · rw [exec_sAtrRsp, atrOf_of_ne_nil (.inl rfl) hp]
      rfl

/-- A WTX request clears the R-NACK counter alone, and is then counted (R180, R193). -/
theorem exec_sWtxReq (p : Bytes) (s : State) : exec (.sWtxReq p) s = .next (wtxRequest { s with
    rxc := { s.rxc with ftype := .s, sSubtype := .named .wtxReq }
    sv := { s.sv with rnackRetryCounter := 0 } }) :=
  rfl

/-- Settles O33: the two cases of `wtx_request`. -/
theorem wtxRequestCounts : Obligations.WtxRequestCounts := by
  intro s p t
  rw [exec_sWtxReq]
  rcases wtxRequest_cases { s with
      rxc := { s.rxc with ftype := .s, sSubtype := .named .wtxReq }
      sv := { s.sv with rnackRetryCounter := 0 } } with ⟨hbelow, heq⟩ | ⟨hlimit, heq⟩
  · rw [heq]
    exact ⟨fun _ => rfl, fun hle => absurd hbelow (not_lt.mpr hle)⟩
  · rw [heq]
    exact ⟨fun hlt => absurd hlt (not_lt.mpr hlimit), fun _ => rfl⟩

theorem lastSentNonWtxS_iff {s : State} :
    lastSentNonWtxS s = true ↔ s.ltx.ftype = .s ∧ s.ltx.s.subtype ≠ .named .wtxRsp := by
  simp [lastSentNonWtxS]

/-- The six subtypes that a rejected S-frame replays (R146, R194). -/
theorem stateOfName_of_replayed : ∀ x ∈ [(SName.resynchReq, PState.sendSResync), (.ifsReq, .sendSIfsAdjust),
    (.atrReq, .sendSAtrRequest), (.intfResetReq, .sendSIntfReset), (.endOfSessionReq, .sendSEndOfSession),
    (.hardResetReq, .sendSHardReset)], stateOfName x.1 = some x.2 ∧ x.1 ≠ .wtxRsp := by
  decide

/-- Settles O34: each of the nine frames is rejected, and the last frame sent chooses the guard's action. -/
theorem unexpectedSframesReplayOrNack : Obligations.UnexpectedSframesReplayOrNack := by
  intro s p u i sub c hmem hlt
  obtain ⟨atr, w, hf, hreject, hcause⟩ : ∃ atr w, i.toFrame = some (.s sub p atr w) ∧ Rejects s (.s sub p atr w) ∧
      rejectionCause (.s sub p atr w) = c := by
    simp only [List.mem_cons, Prod.mk.injEq, List.not_mem_nil, or_false] at hmem
    rcases hmem with ⟨rfl, rfl, rfl⟩ | ⟨rfl, rfl, rfl⟩ | ⟨rfl, rfl, rfl⟩ | ⟨rfl, rfl, rfl⟩ | ⟨rfl, rfl, rfl⟩ |
      ⟨rfl, rfl, rfl⟩ | ⟨rfl, rfl, rfl⟩ | ⟨rfl, rfl, rfl⟩ | ⟨rfl, rfl, rfl⟩ <;>
      exact ⟨_, _, rfl, by simp [Rejects, SName.isRsp], rfl⟩
  subst hcause
  have hguard := exec_of_rejects hf hreject
  constructor
  · intro hs n ps hsub hps
    obtain ⟨hn, hwtx⟩ := stateOfName_of_replayed _ hps
    have hlast : lastSentNonWtxS s = true := lastSentNonWtxS_iff.mpr ⟨hs, by simpa [hsub] using hwtx⟩
    rw [hguard, rejectionAction, if_pos hlast]
    exact guarded_of_lt (a := .replayS) (s := rejected (.s sub p atr w) s) hlt (replayS_of_state hsub hn)
  · intro hother
    have hlast : ¬ lastSentNonWtxS s = true := by
      rw [lastSentNonWtxS_iff]
      rintro ⟨hs, hne⟩
      exact hother.elim (absurd hs) hne
    rw [hguard, rejectionAction, if_neg hlast]
    exact guarded_of_lt (a := .nackOther) (s := rejected (.s sub p atr w) s) hlt rfl

/-! ## The escalation -/

/-- Settles O35: at the limit the guard runs the recovery procedure on the record of the frame. -/
theorem rejectedFramesEscalate : Obligations.RejectedFramesEscalate := by
  intro s i f hf hle x c hrejected e r hrejects
  have hreject : Rejects s f := hrejects
  have hx : x = recordRx f s.rxc := by cases f <;> rfl
  have hc : c = rejectionCause f := by
    cases f with
    | i | r => rfl
    | s sub => cases sub <;> rfl
  have he : e = rejectionSleep s.cfg f := by cases f <;> rfl
  clear_value x c e
  subst hx hc he
  rw [exec_of_rejects hf hreject, guarded_of_le (s := rejected f s) hle]
  constructor
  · intro heq
    rw [recoveryProcedure_of_le (s := rejected f s) heq.le, ← heq]
    rfl
  · intro hlt
    rw [recoveryProcedure_of_lt (s := rejected f s) hlt]
    exact ⟨_, rfl, rfl⟩

end Machine
end Sys2Proof
end

section
/-! The host operations: what their calls are refused for, what they begin, and what they return after their `run`. -/

namespace Sys2Proof
namespace Machine

/-! ## The frame of a host operation -/

theorem hostOp_of_busy {s : State} (h : s.top ≠ .idle) (valid : Bool) (mode : TopState) (body : State → State) :
    hostOp valid mode body s = .next (raise .busy s) :=
  if_pos h

theorem hostOp_of_invalid {s : State} {valid : Bool} (h : s.top = .idle) (hvalid : ¬ valid = true) (mode : TopState)
    (body : State → State) : hostOp valid mode body s = .next (raise .invalidParameter s) := by
  rw [hostOp, if_neg (not_not.mpr h), if_pos (Bool.eq_false_iff.mpr hvalid)]

theorem hostOp_of_valid {s : State} {valid : Bool} (h : s.top = .idle) (hvalid : valid = true) (mode : TopState)
    (body : State → State) : hostOp valid mode body s = .next (body { s with top := mode }) := by
  rw [hostOp, if_neg (not_not.mpr h), if_neg (by simp [hvalid])]

theorem execSetEndpoint_of_idle {s : State} (h : s.top = .idle) (ep : Endpoint) :
    execSetEndpoint (some ep) s = .next (setRet .ok { loadSnapshot (endpointOf s ep) s with epsel := ep }) :=
  if_neg (not_not.mpr h)

theorem execResetEndpoint_of_idle {s : State} {ep : Endpoint} (h : s.top = .idle) (hep : s.epsel = ep) :
    execResetEndpoint s = .next (setRet .ok (setEndpointSnapshot ep (snapshot s) s)) := by
  rw [execResetEndpoint, if_neg (not_not.mpr h), hep]

/-! ### The parameters that the operations take -/

theorem cmdValid_some_iff {b : BufRef} : cmdValid (some b) = true ↔ 1 ≤ b.len ∧ b.len < Config.lenLimit := by
  simp [cmdValid]

theorem closeAllSupported_iff {s : State} :
    closeAllSupported s = true ↔ ∃ a, s.sv.atr = some a ∧ Config.osVersionCloseAllMin ≤ a.osVersion := by
  unfold closeAllSupported
  cases s.sv.atr <;> simp

theorem ifsSizeValid_iff {s : State} {n : Nat} : ifsSizeValid s n = true ↔
    1 ≤ n ∧ n ≤ s.sv.ifsMax ∧ (s.variant = .extended ∨ n ≤ Config.shortLenMax) ∧ n ≤ Config.extLenMax := by
  simp [ifsSizeValid, and_assoc]

/-! ### The two errors of a call -/

/-- Every host operation tests the mode first (R200). -/
theorem exec_of_busy {i : Instr} {s : State} (hi : i.isHostOp = true) (h : s.top ≠ .idle) :
    exec i s = .next (raise .busy s) := by
  cases i with
  | openSession m =>
    cases m with
    | none | some => exact hostOp_of_busy h _ _ _
  | transceive | release | reset | close | closeAllSessions | setIfs | getIfs | getAtr => exact hostOp_of_busy h _ _ _
  | acquireLock => exact hostOp_of_busy h _ _ fun t => beginRun .acquireLock (loadLock t)
  | setEndpoint | resetEndpoint => exact if_pos h
  | _ => cases hi

/-- Settles O37: the mode is tested first, and each of the six refused parameters fails its operation's test. -/
theorem preconditionErrors : Obligations.PreconditionErrors := by
  intro s
  refine ⟨fun i hi h => exec_of_busy hi h, ?_⟩
  rintro h i (rfl | rfl | ⟨b, rfl, hlen⟩ | ⟨rfl, hversion⟩ | ⟨n, rfl, hsize⟩ | rfl)
  · exact hostOp_of_invalid h Bool.false_ne_true _ _
  · exact hostOp_of_invalid h Bool.false_ne_true _ _
  · refine hostOp_of_invalid h (fun hvalid => ?_) _ _
    obtain ⟨hpos, hlim⟩ := cmdValid_some_iff.mp hvalid
    rcases hlen with hzero | hlong
    · omega
    · exact absurd hlim (not_lt.mpr hlong)
  · refine hostOp_of_invalid h (fun hvalid => ?_) _ _
    obtain ⟨a, ha, hle⟩ := closeAllSupported_iff.mp hvalid
    exact absurd hle (not_le.mpr (hversion a ha))
  · refine hostOp_of_invalid h (fun hvalid => ?_) _ _
    obtain ⟨hpos, hmax, hfits, hext⟩ := ifsSizeValid_iff.mp hvalid
    rcases hsize with hzero | hbeyond | ⟨hlegacy, hlong⟩ | hlong
    · omega
    · exact absurd hmax (not_le.mpr hbeyond)
    · rw [hlegacy] at hfits
      exact hfits.elim nofun (not_le.mpr hlong)
    · exact absurd hext (not_le.mpr hlong)
  · exact if_neg (not_not.mpr h)

/-! ## What a call begins -/

theorem openBody_resync_legacy {s : State} (hv : s.variant = .legacy) : openBody .resync s =
    exchangeS .openHandshake .resynchReq [] .sendSResync (resetParams s) := by
  simp only [openBody, hv]

theorem openBody_resync_extended {s : State} (hv : s.variant = .extended) : openBody .resync s =
    exchangeS .openHandshake .hardResetReq [] .sendSHardReset (resetParams s) := by
  simp only [openBody, hv]

theorem resetBody_legacy {s : State} (hv : s.variant = .legacy) : resetBody s =
    exchangeS .resetResync .resynchReq [] .sendSResync (resetParams s) := by
  simp only [resetBody, hv]

theorem resetBody_extended {s : State} (hv : s.variant = .extended) : resetBody s =
    exchangeS .resetHard .hardResetReq [] .sendSHardReset (resetParams s) := by
  simp only [resetBody, hv]

/-- Settles O38: the handshake of each mode and variant, after `reset_params`. -/
theorem resettingOperationsStart : Obligations.ResettingOperationsStart := by
  intro s h
  have hcall (body : State → State) := hostOp_of_valid (valid := true) h rfl .transceive body
  refine ⟨resetParams s, rfl, hcall _, fun hv => ?_, fun hv => ?_⟩
  · exact ⟨(hcall _).trans (congrArg _ (openBody_resync_legacy hv)),
      (hcall _).trans (congrArg _ (resetBody_legacy hv))⟩
  · exact ⟨(hcall _).trans (congrArg _ (openBody_resync_extended hv)),
      (hcall _).trans (congrArg _ (resetBody_extended hv))⟩

theorem ifsPayload_of_legacy {v : Variant} (hv : v = .legacy) (n : Nat) : ifsPayload v n = [byteOf n] := by
  rw [hv, ifsPayload]

theorem ifsPayload_of_extended {v : Variant} (hv : v = .extended) (n : Nat) : ifsPayload v n = be16 n := by
  rw [hv, ifsPayload]

/-- Settles O39: each operation takes its parameters, so its body runs. -/
theorem exchangeOperationsStart : Obligations.ExchangeOperationsStart := by
  intro s h start
  refine ⟨?_, ?_, ?_, ?_, ?_, ?_⟩
  · intro b hpos hlim
    exact ⟨_, exec_seedIframe_of_valid (Option.some_ne_none b) hpos hlim s,
      hostOp_of_valid h (cmdValid_some_iff.mpr ⟨hpos, hlim⟩) _ _⟩
  · intro isFirst
    exact ⟨loadLock s, rfl, hostOp_of_valid h rfl _ fun t => beginRun .acquireLock (loadLock t)⟩
  · exact hostOp_of_valid h rfl _ _
  · intro a ha hversion
    exact hostOp_of_valid h (closeAllSupported_iff.mpr ⟨a, ha, hversion⟩) _ _
  · intro n hpos hmax
    refine ⟨fun hv hshort => ?_, fun hv hext => ?_⟩
    · have hvalid : ifsSizeValid s n = true :=
        ifsSizeValid_iff.mpr ⟨hpos, hmax, .inr hshort, hshort.trans (by decide)⟩
      refine (hostOp_of_valid h hvalid _ _).trans ?_
      rw [ifsPayload_of_legacy hv]
      rfl
    · have hvalid : ifsSizeValid s n = true := ifsSizeValid_iff.mpr ⟨hpos, hmax, .inl hv, hext⟩
      refine (hostOp_of_valid h hvalid _ _).trans ?_
      rw [ifsPayload_of_extended hv]
      rfl
  · exact hostOp_of_valid h rfl _ _

/-! ## The operations that end at their call -/

/-- An operation that ends at once at rest changes the returned value alone (R200). -/
theorem endOp_of_rest {s : State} (h : s.top = .idle) (hk : s.ctl = .atRest) (r : Ret) (mode : TopState) :
    endOp r { s with top := mode } = { s with ret := r } := by
  simp only [endOp, ← h, ← hk]

/-- Settles O40: both bodies are the end of the operation. -/
theorem immediateOperations : Obligations.ImmediateOperations := by
  intro s h hk
  have hend (r : Ret) : hostOp true .transceive (endOp r) s = .next { s with ret := r } := by
    rw [hostOp_of_valid h rfl, endOp_of_rest h hk]
  exact ⟨hend _, hend _⟩

/-- Settles O41: by the endpoint that is loaded or stored. -/
theorem endpointOperations : Obligations.EndpointOperations := by
  intro s ep h x
  refine ⟨?_, ?_⟩
  · refine (execSetEndpoint_of_idle h ep).trans ?_
    cases ep <;> rfl
  · exact ⟨fun hep => execResetEndpoint_of_idle h hep, fun hep => execResetEndpoint_of_idle h hep⟩

/-! ## After the `run` -/

theorem transceiveRet_of_ok {s : State} (h : s.status = .ok) : transceiveRet s = .okBytes s.rlist.flatten := by
  rw [transceiveRet, h]
  rfl

theorem transceiveRet_of_error {s : State} {e : HostError} (h : retOfStatus s.status = .err e) :
    transceiveRet s = .errPartial e s.rlist.flatten := by
  cases he : errorOf s.status with
  | none => simp [retOfStatus, he] at h
  | some e' =>
    simp only [retOfStatus, he, Ret.err.injEq] at h
    simp only [transceiveRet, he, h]

theorem atrRet_of_ok {s : State} (h : s.status = .ok) :
    atrRet s = .okBytes ((s.sv.atr.map AtrFields.raw).getD []) := by
  rw [atrRet, h]
  cases s.sv.atr <;> rfl

theorem atrRet_of_ne_ok {s : State} (h : s.status ≠ .ok) : atrRet s = retOfStatus s.status := by
  unfold atrRet
  cases hst : s.status with
  | ok => exact absurd hst h
  | recoveryExhausted | transceiveFailed | ioFailure => rfl

/-- The second exchange of an operation begins after a first one that ended `Ok`, so `STATUS` keeps its value (R161,
R202). -/
theorem exchangeS_of_ok {s : State} (h : s.status = .ok) (k : Cont) (n : SName) (p : Bytes) (ps : PState) :
    exchangeS k n p ps s = { s with
      cause := .none
      ntx := { s.ntx with ftype := .s, s := { subtype := .named n, payload := p } }
      pstate := ps
      ctl := .running k } := by
  simp only [exchangeS, beginRun, loadSframe, ← h]

theorem openIfs_of_maxIfsc {s : State} {a : AtrFields} (ha : s.sv.atr = some a) (hpos : 1 ≤ a.maxIfsc) :
    openIfs s = writeIfs (min a.maxIfsc Config.extLenMax) s := by
  simp only [openIfs, ha, if_pos hpos]

theorem openIfs_of_no_maxIfsc {s : State} (h : ∀ a, s.sv.atr = some a → a.maxIfsc = 0) : openIfs s = s := by
  unfold openIfs
  split
  · rfl
  · rename_i a ha
    rw [if_neg (by simp [h a ha])]

/-- Settles O42: by the continuation of the operation and the status of its `run`. -/
theorem operationsFinish : Obligations.OperationsFinish := by
  intro s hidle hquiet fin err atrRequest drop
  have hstep {k : Cont} (hk : s.ctl = .running k) : step s = .next (finishOp k s) := step_finish hk hquiet hidle
  have herr : retOfStatus s.status = err := by
    dsimp only [err]
    cases s.status <;> rfl
  have hends {k : Cont} {t : State} (hk : s.ctl = .running k) (hfin : finishOp k s = t) : step s = .next t :=
    (hstep hk).trans (congrArg _ hfin)
  have hstatus : endOp (retOfStatus s.status) s = fin err := congrArg (endOp · s) herr
  refine ⟨?transceive, ?plain, fun hk => hstep hk, ?getAtr, ?resetHard, ?openHandshake, ?openAtr⟩
  case transceive =>
    exact fun b hk => ⟨fun hok => hends hk (congrArg (endOp · (releaseBuffer s)) (transceiveRet_of_ok hok)),
      fun e he => hends hk (congrArg (endOp · (releaseBuffer s)) (transceiveRet_of_error (herr.trans he)))⟩
  case plain => rintro (hk | hk | hk | hk | hk) <;> exact hends hk hstatus
  case getAtr =>
    refine fun hk => ⟨fun hok => hends hk ((congrArg (endOp · s) (atrRet_of_ok hok)).trans ?_),
      fun hne => hends hk ((congrArg (endOp · s) (atrRet_of_ne_ok hne)).trans hstatus)⟩
    cases s.sv.atr <;> rfl
  case resetHard =>
    exact fun hk => hends hk (ite_congr rfl (fun hok => exchangeS_of_ok hok _ _ _ _) fun _ => hstatus)
  case openHandshake =>
    exact fun hk => hends hk (ite_congr rfl (fun h => exchangeS_of_ok h.1 _ _ _ _) fun _ => hstatus)
  case openAtr =>
    refine fun hk => ⟨fun a hok ha hpos => hends hk ((if_pos hok).trans ?_), fun h => hends hk ?_⟩
    · rw [openIfs_of_maxIfsc ha hpos]
      rfl
    · by_cases hok : s.status = .ok
      · refine (if_pos hok).trans ?_
        rw [openIfs_of_no_maxIfsc (h.resolve_left (not_not.mpr hok)), ← hstatus, hok]
        rfl
      · exact (if_neg hok).trans hstatus

end Machine
end Sys2Proof
end

section
/-! A successful `reset`, transition by transition: exchanges of S-frames that the peer answers as it should. -/

namespace Sys2Proof
namespace Machine

/-! ## An S-frame exchange and its answer -/

theorem stateOfName_sends {n : SName} {ps : PState} (hn : stateOfName n = some ps) :
    ps ≠ .idle ∧ ps ≠ .sendRNack := by
  constructor <;> rintro rfl <;> cases n <;> cases hn

/-- The frame of an S-frame exchange without payload exists (R103, R163). -/
theorem exists_frameFor_exchangeS {n : SName} {ps : PState} (hn : stateOfName n = some ps) (k : Cont) (s : State) :
    ∃ F, frameFor (exchangeS k n [] ps s) = .frame F := by
  obtain ⟨hsends, hnotNack⟩ := stateOfName_sends hn
  exact exists_frameFor hsends (fun h => absurd h (stateOfName_ne_sendIframe hn)) (fun h => absurd h hnotNack)
    fun _ => Nat.zero_le _

/-- The writes of an exchange whose frame `F` the adapter takes and answers with the bytes `G`, before the dispatch
(R160). -/
def answered (F G : Bytes) (ss : List SendAnswer) (rs : List RecvAnswer) (s : State) : State :=
  { afterReceive (.bytes G) rs (afterSend F ss s) with rxf := G }

/-- The transition after the beginning of an S-frame exchange is the reception of the peer's answer (R160, R202). -/
theorem step_exchangeS {k : Cont} {n : SName} {ps : PState} {s : State} {G : Bytes} {ss : List SendAnswer}
    {rs : List RecvAnswer} {i : Instr} (hn : stateOfName n = some ps) (hquiet : s.hostIn = [])
    (hss : s.sendScript = .ok :: ss) (hrs : s.recvScript = .bytes G :: rs)
    (hdec : decodeInstr s.cfg s.variant s.epsel G = .ok i) :
    ∃ F, step (exchangeS k n [] ps s) = exec i (answered F G ss rs (exchangeS k n [] ps s)) := by
  obtain ⟨F, hF⟩ := exists_frameFor_exchangeS hn k s
  obtain ⟨hsends, -⟩ := stateOfName_sends hn
  obtain ⟨f, hf⟩ := decodeInstr_isWire hdec
  have hagrees : sendStateAgrees ps (exchangeS k n [] ps s).ntx = true := sendStateAgrees_of_stateOfName hn rfl rfl
  refine ⟨F, ?_⟩
  calc step (exchangeS k n [] ps s)
    _ = seqStep (exchangeS k n [] ps s) := step_running rfl hquiet hsends
    _ = react (onAnswer (.bytes G) (afterReceive (.bytes G) rs (afterSend F ss (exchangeS k n [] ps s)))) :=
      seqStep_of_answer hsends hagrees hF hss hrs
    _ = dispatchWire i (answered F G ss rs (exchangeS k n [] ps s)) :=
      congrArg react (onAnswer_of_ok (s := afterReceive (.bytes G) rs (afterSend F ss (exchangeS k n [] ps s))) hdec)
    _ = exec i (answered F G ss rs (exchangeS k n [] ps s)) := dispatchWire_eq_exec hf _

/-- The state `s` after a request `n` without payload in the frame `F`, whose answer in the bytes `G` needs no more than
the record of its subtype `rsp` (R189, R202). -/
def plainExchange (k : Cont) (n rsp : SName) (F G : Bytes) (ss : List SendAnswer) (rs : List RecvAnswer)
    (s : State) : State :=
  let x : TxCtx := { s.ntx with ftype := .s, s := { subtype := .named n, payload := [] } }
  { s with
    pstate := .idle, status := .ok, cause := .none, ctl := .running k, ntx := x, ltx := x
    rxc := { s.rxc with ftype := .s, sSubtype := .named rsp }
    sv := { s.sv with rnackRetryCounter := 0, wtxCounter := 0, recoveryCounter := 0 }
    txf := F, rxf := G, sendScript := ss, recvScript := rs
    trace := .received s.cfg.recvTimeout (.bytes G) :: .sent F .ok :: s.trace }

theorem step_plainExchange {k : Cont} {n rsp : SName} {ps : PState} {s : State} {G p : Bytes} {ss : List SendAnswer}
    {rs : List RecvAnswer} {i : Instr} (hn : stateOfName n = some ps)
    (hrsp : rsp ∈ [SName.resynchRsp, .abortRsp, .hardResetRsp, .endOfSessionRsp])
    (hf : i.toFrame = some (sFrame rsp p)) (hquiet : s.hostIn = []) (hss : s.sendScript = .ok :: ss)
    (hrs : s.recvScript = .bytes G :: rs) (hdec : decodeInstr s.cfg s.variant s.epsel G = .ok i) :
    ∃ F, step (exchangeS k n [] ps s) = .next (plainExchange k n rsp F G ss rs s) := by
  obtain ⟨F, hstep⟩ := step_exchangeS (k := k) hn hquiet hss hrs hdec
  exact ⟨F, hstep.trans ((exec_wire hf _).trans (dispatch_plain_response rsp hrsp p _ _ _))⟩

/-- An ATR that the peer sends is applied to what its exchange leaves besides (R192). -/
theorem step_atrRequest {s : State} {H q : Bytes} {ss : List SendAnswer} {rs : List RecvAnswer} (k : Cont)
    (hquiet : s.hostIn = []) (hss : s.sendScript = .ok :: ss) (hrs : s.recvScript = .bytes H :: rs)
    (hdec : decodeInstr s.cfg s.variant s.epsel H = .ok (.sAtrRsp q)) (hq : q ≠ []) :
    ∃ F, step (exchangeS k .atrReq [] .sendSAtrRequest s) =
      .next (applyAtr (some (Config.parseAtr q)) q (plainExchange k .atrReq .atrRsp F H ss rs s)) := by
  obtain ⟨F, hstep⟩ := step_exchangeS (k := k) (n := .atrReq) rfl hquiet hss hrs hdec
  rw [exec_sAtrRsp, atrOf_of_ne_nil (.inl rfl) hq] at hstep
  exact ⟨F, hstep⟩

/-! ## The transitions of `reset` -/

/-- The protocol right after the call of `reset`, about to begin the handshake (R200, R207). -/
def resetCalled (s : State) : State := resetParams { s with hostIn := [], top := .transceive }

theorem step_reset {s : State} (h : s.top = .idle) (hcall : s.hostIn = [.call .reset]) :
    step s = .next (resetBody { s with hostIn := [], top := .transceive }) :=
  (step_call hcall rfl).trans (hostOp_of_valid (s := { s with hostIn := [] }) h rfl _ _)

theorem step_reset_legacy {s : State} (h : s.top = .idle) (hcall : s.hostIn = [.call .reset])
    (hv : s.variant = .legacy) :
    step s = .next (exchangeS .resetResync .resynchReq [] .sendSResync (resetCalled s)) :=
  (step_reset h hcall).trans (congrArg _ (resetBody_legacy hv))

theorem step_reset_extended {s : State} (h : s.top = .idle) (hcall : s.hostIn = [.call .reset])
    (hv : s.variant = .extended) :
    step s = .next (exchangeS .resetHard .hardResetReq [] .sendSHardReset (resetCalled s)) :=
  (step_reset h hcall).trans (congrArg _ (resetBody_extended hv))

/-- After a hard reset that ended `Ok`, `reset` asks for the ATR (R207). -/
theorem step_resetHard_of_ok {s : State} (hk : s.ctl = .running .resetHard) (hquiet : s.hostIn = [])
    (hidle : s.pstate = .idle) (hok : s.status = .ok) :
    step s = .next (exchangeS .resetAtr .atrReq [] .sendSAtrRequest s) :=
  (step_finish hk hquiet hidle).trans (congrArg _ (if_pos hok))

/-- After its last exchange, ended `Ok`, `reset` returns (R207). -/
theorem step_reset_end {s : State} (hk : s.ctl = .running .resetResync ∨ s.ctl = .running .resetAtr)
    (hquiet : s.hostIn = []) (hidle : s.pstate = .idle) (hok : s.status = .ok) : step s = .next (endOp .ok s) := by
  have hend : endOp (retOfStatus s.status) s = endOp .ok s := by
    rw [hok]
    rfl
  rcases hk with hk | hk <;> exact (step_finish hk hquiet hidle).trans (congrArg _ hend)

theorem run_core_succ {s u : State} (hu : step s = .next u) (n : Nat) :
    Host.Core.run core (n + 1) s = Host.Core.run core n u :=
  run_succ (M := core) hu n

/-- A successful `reset` of a legacy chip: the call, the resync and the end (R207). -/
theorem run_reset_legacy {s : State} {G p : Bytes} {ss : List SendAnswer} {rs : List RecvAnswer} (h : s.top = .idle)
    (hcall : s.hostIn = [.call .reset]) (hv : s.variant = .legacy) (hss : s.sendScript = .ok :: ss)
    (hrs : s.recvScript = .bytes G :: rs) (hdec : decodeInstr s.cfg .legacy s.epsel G = .ok (.sResynchRsp p)) :
    ∃ F, Host.Core.run core 3 s =
      .next (endOp .ok (plainExchange .resetResync .resynchReq .resynchRsp F G ss rs (resetCalled s))) := by
  obtain ⟨F, hresync⟩ := step_plainExchange (s := resetCalled s) (k := .resetResync) (n := .resynchReq)
    (rsp := .resynchRsp) rfl (by decide) rfl rfl hss hrs (hv ▸ hdec)
  refine ⟨F, ?_⟩
  rw [run_core_succ (step_reset_legacy h hcall hv), run_core_succ hresync,
    run_core_succ (step_reset_end (.inl rfl) rfl rfl rfl)]
  rfl

/-- A successful `reset` of an extended chip: the call, the hard reset, the beginning of the second exchange, the ATR
request and the end (R207). -/
theorem run_reset_extended {s : State} {G H p q : Bytes} {ss : List SendAnswer} {rs : List RecvAnswer}
    (h : s.top = .idle) (hcall : s.hostIn = [.call .reset]) (hv : s.variant = .extended)
    (hss : s.sendScript = .ok :: .ok :: ss) (hrs : s.recvScript = .bytes G :: .bytes H :: rs)
    (hdecG : decodeInstr s.cfg .extended s.epsel G = .ok (.sHardResetRsp p))
    (hdecH : decodeInstr s.cfg .extended s.epsel H = .ok (.sAtrRsp q)) (hq : q ≠ []) :
    ∃ E F, Host.Core.run core 5 s = .next (endOp .ok (applyAtr (some (Config.parseAtr q)) q
      (plainExchange .resetAtr .atrReq .atrRsp F H ss rs
        (plainExchange .resetHard .hardResetReq .hardResetRsp E G (.ok :: ss) (.bytes H :: rs) (resetCalled s))))) := by
  obtain ⟨E, hhard⟩ := step_plainExchange (s := resetCalled s) (k := .resetHard) (n := .hardResetReq)
    (rsp := .hardResetRsp) rfl (by decide) rfl rfl hss hrs (hv ▸ hdecG)
  obtain ⟨F, hatr⟩ := step_atrRequest (s := plainExchange .resetHard .hardResetReq .hardResetRsp E G (.ok :: ss)
    (.bytes H :: rs) (resetCalled s)) .resetAtr rfl rfl rfl (hv ▸ hdecH) hq
  refine ⟨E, F, ?_⟩
  rw [run_core_succ (step_reset_extended h hcall hv), run_core_succ hhard,
    run_core_succ (step_resetHard_of_ok rfl rfl rfl rfl), run_core_succ hatr,
    run_core_succ (step_reset_end (.inr rfl) rfl rfl rfl)]
  rfl

/-- Settles O57: the transitions of a successful `reset` are followed one by one, and the state they end in holds only
what `reset_params` and the answers of the peer wrote. -/
theorem resetIsIdempotent : Obligations.ResetIsIdempotent := by
  intro s G H p q ss rs h hrest hcall x
  refine ⟨fun hv hss hrs hdec => ?_, fun hv hss hrs hdecG hdecH hq => ?_⟩
  · obtain ⟨F, hrun⟩ := run_reset_legacy h hcall hv hss hrs hdec
    exact ⟨_, hrun, rfl, rfl, rfl, rfl, rfl, rfl, rfl, rfl, rfl, hv, rfl, rfl⟩
  · obtain ⟨E, F, hrun⟩ := run_reset_extended h hcall hv hss hrs hdecG hdecH hq
    exact ⟨_, hrun, rfl, rfl, rfl, rfl, rfl, rfl, rfl, rfl, rfl, hv, rfl, rfl⟩

end Machine
end Sys2Proof
end

section
/-! The operations by which the block enters an error and escalates it: one equation for each branch of the retry
policy, of the guard, of the retransmission and of the recovery procedure. -/

namespace Sys2Proof
namespace Machine

theorem exec_retryPolicy (s : State) : exec .retryPolicy s = .next (retryPolicy s) := rfl

theorem exec_guarded (a : GuardedAction) (s : State) : exec (.guarded a) s = guarded a s := rfl

theorem exec_retransmit (s : State) : exec .retransmit s = retransmit s := rfl

theorem exec_recoveryProcedure (s : State) : exec .recoveryProcedure s = .next (recoveryProcedure s) := rfl

theorem exec_giveUp (s : State) : exec .giveUp s = .next (giveUp s) := rfl

theorem retryPolicy_of_lt {s : State} (hlt : s.sv.rnackRetryCounter < s.sv.rnackRetryLimit) :
    retryPolicy s = setRnack (s.sv.rnackRetryCounter + 1) (loadRframe .nack .parity s) :=
  if_pos hlt

/-- At its limit the retry policy writes the outcome and leaves the counter where it is (R236). -/
theorem retryPolicy_of_le {s : State} (hle : s.sv.rnackRetryLimit ≤ s.sv.rnackRetryCounter) :
    retryPolicy s = endExchange .recoveryExhausted s :=
  if_neg (not_lt.mpr hle)

/-- Settles O17: the two branches of the retry policy. -/
theorem retryPolicyBranches : Obligations.RetryPolicyBranches := by
  intro s
  rw [exec_retryPolicy]
  constructor
  · intro hlt
    rw [retryPolicy_of_lt hlt]
    rfl
  · intro hle
    rw [retryPolicy_of_le hle]
    rfl

/-- Above its limit the guard gives up, whatever the action (R237, R241). -/
theorem guarded_of_limit_lt {s : State} (hlt : s.cfg.frameRetryCount < s.sv.recoveryCounter) (a : GuardedAction) :
    guarded a s = .next (giveUp s) := by
  rw [guarded_of_le hlt.le, recoveryProcedure_of_lt hlt]

/-- Settles O18: below the limit the guard counts the action that completes; from it on it runs the recovery
procedure, which has one attempt left at the limit and none above it. -/
theorem guardBranches : Obligations.GuardBranches := by
  intro s
  constructor
  · intro hlt
    refine ⟨guarded_of_lt (a := .nackOther) hlt rfl, ?_, ?_⟩
    · intro n ps hsub hps
      exact guarded_of_lt (a := .replayS) hlt (replayS_of_state hsub (stateOfName_of_mem _ hps))
    · intro t ht
      have hsv : t.sv = s.sv := guardedAction_sv (a := .retransmit) ht
      rw [exec_guarded, guarded_of_lt (a := .retransmit) hlt ht, ← hsv]
      rfl
  · intro a hle
    rw [exec_guarded]
    constructor
    · intro heq
      rw [guarded_of_le hle, recoveryProcedure_of_le heq.le, ← heq]
      rfl
    · exact fun hlt => guarded_of_limit_lt hlt a

/-- Settles O19: one equation of `retransmit` for each kind of the last frame sent, three of them after an R-frame. -/
theorem retransmitByLastSent : Obligations.RetransmitByLastSent := by
  intro s
  rw [exec_retransmit]
  refine ⟨retransmit_iframe, retransmit_lock, ?_, ?_, retransmit_nothing⟩
  · intro hs n ps hsub hps
    exact retransmit_sframe_of_state hs hsub (stateOfName_of_mem _ hps)
  · intro hr
    refine ⟨?_, ?_, ?_⟩
    · rintro ⟨hpending, hseq, hkind⟩
      exact retransmit_rframe_resend hr ((ltxPending_iff s).mpr hpending) hseq hkind
    · rintro ⟨hseq, hkind⟩
      exact retransmit_rframe_ackLost hr hseq hkind
    · intro hresend hackLost
      rw [← ltxPending_iff] at hresend
      exact retransmit_rframe_nack hr hresend hackLost

/-- Settles O21: the two branches of the recovery procedure. -/
theorem recoveryProcedureBranches : Obligations.RecoveryProcedureBranches := by
  intro s
  rw [exec_recoveryProcedure]
  constructor
  · intro hle
    rw [recoveryProcedure_of_le hle]
    rfl
  · intro hlt
    rw [recoveryProcedure_of_lt hlt, exec_giveUp]

/-- Settles O22: `give_up` writes three registers after the protocol reset. -/
theorem giveUpKeepsResponseAndCause : Obligations.GiveUpKeepsResponseAndCause :=
  fun s => ⟨resetParams s, rfl, exec_giveUp s⟩

end Machine
end Sys2Proof
end

section
/-! The two resets: `reset_params` writes the initial records, with `SEQ_INIT = 1` in each sequence bit, and power-on
reset then takes both snapshots of the state it leaves. -/

namespace Sys2Proof
namespace Machine

theorem exec_resetParams (s : State) : exec .resetParams s = .next (resetParams s) := rfl

theorem exec_powerOnReset (s : State) : exec .powerOnReset s = .next (powerOn s) := rfl

theorem initialTx_eq (c : Cfg) : initialTx c = {
    ftype := .none
    i := { buf := none, offset := 0, remaining := 0, fragLen := 0, maxLen := c.ifsDefault, seq := true,
           chained := false }
    r := { kind := .ack, err := .none, seq := true }
    s := { subtype := .invalid, payload := [] } } := rfl

theorem initialRx_eq : initialRx =
    { ftype := .none, iSeq := true, iChained := false, rSeq := true, rErr := .none, sSubtype := .invalid } := rfl

/-- Settles O23: the records that `reset_params` writes are the initial ones. -/
theorem resetParamsValues : Obligations.ResetParamsValues := by
  intro s
  rw [exec_resetParams, resetParams, initialTx_eq, initialRx_eq, initialSv]

/-- Each snapshot that power-on reset writes is the active state it leaves (R270). -/
theorem powerOn_eq (s : State) : powerOn s = { resetParams s with
    top := .idle, variant := .legacy, epsel := .ese, epEse := snapshot (powerOn s), epEuicc := snapshot (powerOn s)
    txf := Config.freeBytes s.tick, rxf := Config.freeBytes (s.tick + 1), tick := s.tick + 2, ctl := .atRest } := rfl

/-- Besides `TOP` and `VARIANT`, the active state after power-on reset is that after `reset_params` (R270). -/
theorem snapshot_powerOn (s : State) : snapshot (powerOn s) =
    { snapshot (resetParams s) with top := .idle, variant := .legacy } := rfl

/-- Settles O24: power-on reset writes its registers over the state after `reset_params`, the snapshots last. -/
theorem powerOnResetValues : Obligations.PowerOnResetValues := by
  intro s
  refine ⟨resetParams s, Config.freeBytes s.tick, Config.freeBytes (s.tick + 1), s.tick + 2, .atRest,
    exec_resetParams s, ?_⟩
  rw [exec_powerOnReset, powerOn_eq, snapshot_powerOn, snapshot]

end Machine
end Sys2Proof
end
